-- ==== Sys2Proof/Word.lean ====
section
/-! DEFINITION. The bit-vector widths of the block: bytes of the buffers, CRC values, and the command and response
words (spec/00_scope.md R15, spec/10_state.md R21, spec/20_memory.md R50). -/

namespace Sys2Proof

/-- A byte, 8 bits (R15). -/
abbrev Byte := BitVec 8

/-- A CRC16 value, 16 bits (R70). -/
abbrev Half := BitVec 16

/-- A command word, a response word or a decoded value, 32 bits (R50, R60). -/
abbrev Word := BitVec 32

end Sys2Proof
end

