-- ==== Sys2Proof/Syntax.lean ====
section
/-! DEFINITION. The commands: one constructor for each row of spec/opcode_table.json (spec/30_encoding.md R64). The
operands are the bytes of R63, whatever their value: an index or a selector out of range is a legal command that fails
when it is executed. -/

namespace Sys2Proof

/-- A command of the block (R4, R64). -/
inductive Instr where
  /-- NOP (spec/40_crc.md R73). -/
  | nop
  /-- CRC_INIT (R74). -/
  | crcInit
  /-- CRC_BYTE: the data byte (R75). -/
  | crcByte (c : Byte)
  /-- CRC_READ (R76). -/
  | crcRead
  /-- FRAME_BUILD: frame address, frame opcode, frame sub-opcode (spec/41_frame.md R83). -/
  | frameBuild (a b c : Byte)
  /-- FRAME_READ: byte index (R84). -/
  | frameRead (c : Byte)
  /-- RX_CLEAR (R87). -/
  | rxClear
  /-- RX_PUSH: the received byte (R88). -/
  | rxPush (c : Byte)
  /-- RX_VERIFY (R89). -/
  | rxVerify
  /-- RX_READ: byte index (R90). -/
  | rxRead (c : Byte)
  /-- PL_READ: byte index (R91). -/
  | plRead (c : Byte)
  /-- DEC_INT32 (spec/42_decode.md R103). -/
  | decInt32
  /-- DEC_FLOAT32 (R104). -/
  | decFloat32
  /-- DEC_STRING (R106). -/
  | decString
  /-- DEC_DATE (R107). -/
  | decDate
  /-- RES_READ: result selector (R109). -/
  | resRead (c : Byte)
  /-- STATUS_READ (spec/43_status.md R120). -/
  | statusRead
  /-- ERR_READ: error-register selector (R121). -/
  | errRead (c : Byte)
  /-- ERR_CLEAR (R122). -/
  | errClear
deriving DecidableEq, Repr

end Sys2Proof
end

