-- ==== Sys2Proof/WellFormed.lean ====
section
/-! DEFINITION. The three formats and the must-be-zero check of a command word (spec/30_encoding.md R62, R66). A term of
`Instr` cannot be ill-formed: its operands are bytes by type and every byte is legal there (R63). A command WORD can
be, and that is what the spec calls well-formed or not (spec/60_exceptions.md R133). -/

namespace Sys2Proof

/-- The formats of R62. -/
inductive Format where
  /-- No operand: A, B and C must be zero. -/
  | z
  /-- One operand, C: A and B must be zero. -/
  | c8
  /-- Three operands: no field must be zero. -/
  | abc
deriving DecidableEq, Repr

/-- The must-be-zero bits of a format (R62). Format C8 checks A and B, as R62, R66 and the rule of every C8 command say;
R64's mask column does not look at B (log entry 17). -/
def Format.mustBeZero : Format → Word
  | .z => 0x00FFFFFF
  | .c8 => 0x00FFFF00
  | .abc => 0x00000000

/-- The check of R66: the format's must-be-zero fields are all zero in the word. -/
def Format.wellFormed (f : Format) (w : Word) : Bool := (w &&& f.mustBeZero) == 0

/-- The format of each command (R62). -/
def Instr.format : Instr → Format
  | .nop => .z
  | .crcInit => .z
  | .crcByte _ => .c8
  | .crcRead => .z
  | .frameBuild _ _ _ => .abc
  | .frameRead _ => .c8
  | .rxClear => .z
  | .rxPush _ => .c8
  | .rxVerify => .z
  | .rxRead _ => .c8
  | .plRead _ => .c8
  | .decInt32 => .z
  | .decFloat32 => .z
  | .decString => .z
  | .decDate => .z
  | .resRead _ => .c8
  | .statusRead => .z
  | .errRead _ => .c8
  | .errClear => .z

end Sys2Proof
end

