-- ==== Sys2Proof/Decode.lean ====
section
/-! DEFINITION. Decoding of command words, total over all 2^32 words (spec/30_encoding.md R60 to R66), and the
encoder. -/

namespace Sys2Proof

/-- The OP field, `w[31:24]` (R61). -/
def opField (w : Word) : Byte := w.extractLsb' 24 8

/-- The A field, `w[23:16]` (R61). -/
def fieldA (w : Word) : Byte := w.extractLsb' 16 8

/-- The B field, `w[15:8]` (R61). -/
def fieldB (w : Word) : Byte := w.extractLsb' 8 8

/-- The C field, `w[7:0]` (R61). -/
def fieldC (w : Word) : Byte := w.extractLsb' 0 8

/-- The command word with the four fields of R61. -/
def packWord (op a b c : Byte) : Word := op ++ a ++ b ++ c

/-- Why a word is ILLEGAL (R66). Both are executed as the one failure ILLEGAL_COMMAND. -/
inductive Illegal where
  /-- OP is not in the opcode map. -/
  | unknownOp (op : Byte)
  /-- A must-be-zero field of the named command is not zero. -/
  | mustBeZero (mnemonic : String)
deriving DecidableEq, Repr

/-- A row of the opcode map (R64), with the command its operand fields stand for (R63). -/
structure OpcodeRow where
  mnemonic : String
  op : Byte
  format : Format
  build : Byte → Byte → Byte → Instr

/-- The row's `match` column (R64). -/
def OpcodeRow.matchWord (r : OpcodeRow) : Word := packWord r.op 0 0 0

/-- The row's mask: the OP field and the must-be-zero fields of R62 (for the format C8 this is not the number R64's mask
column prints: log entry 17). -/
def OpcodeRow.mask (r : OpcodeRow) : Word := 0xFF000000 ||| r.format.mustBeZero

/-- The opcode map (R64). -/
def opcodeMap : List OpcodeRow :=
  [ ⟨"NOP", 0x00, .z, fun _ _ _ => .nop⟩,
    ⟨"CRC_INIT", 0x01, .z, fun _ _ _ => .crcInit⟩,
    ⟨"CRC_BYTE", 0x02, .c8, fun _ _ c => .crcByte c⟩,
    ⟨"CRC_READ", 0x03, .z, fun _ _ _ => .crcRead⟩,
    ⟨"FRAME_BUILD", 0x10, .abc, fun a b c => .frameBuild a b c⟩,
    ⟨"FRAME_READ", 0x11, .c8, fun _ _ c => .frameRead c⟩,
    ⟨"RX_CLEAR", 0x20, .z, fun _ _ _ => .rxClear⟩,
    ⟨"RX_PUSH", 0x21, .c8, fun _ _ c => .rxPush c⟩,
    ⟨"RX_VERIFY", 0x22, .z, fun _ _ _ => .rxVerify⟩,
    ⟨"RX_READ", 0x23, .c8, fun _ _ c => .rxRead c⟩,
    ⟨"PL_READ", 0x24, .c8, fun _ _ c => .plRead c⟩,
    ⟨"DEC_INT32", 0x30, .z, fun _ _ _ => .decInt32⟩,
    ⟨"DEC_FLOAT32", 0x31, .z, fun _ _ _ => .decFloat32⟩,
    ⟨"DEC_STRING", 0x32, .z, fun _ _ _ => .decString⟩,
    ⟨"DEC_DATE", 0x33, .z, fun _ _ _ => .decDate⟩,
    ⟨"RES_READ", 0x34, .c8, fun _ _ c => .resRead c⟩,
    ⟨"STATUS_READ", 0x40, .z, fun _ _ _ => .statusRead⟩,
    ⟨"ERR_READ", 0x41, .c8, fun _ _ c => .errRead c⟩,
    ⟨"ERR_CLEAR", 0x42, .z, fun _ _ _ => .errClear⟩ ]

/-- R65's `decode`: the row with the word's OP, then its must-be-zero fields. -/
def decode (w : Word) : Except Illegal Instr :=
  match opcodeMap.find? (fun r => r.op == opField w) with
  | none => .error (.unknownOp (opField w))
  | some r =>
    if r.format.wellFormed w then .ok (r.build (fieldA w) (fieldB w) (fieldC w))
    else .error (.mustBeZero r.mnemonic)

/-- The word of a command (R61, R64; R69's "OP << 24 | …"). -/
def encode : Instr → Word
  | .nop => packWord 0x00 0 0 0
  | .crcInit => packWord 0x01 0 0 0
  | .crcByte c => packWord 0x02 0 0 c
  | .crcRead => packWord 0x03 0 0 0
  | .frameBuild a b c => packWord 0x10 a b c
  | .frameRead c => packWord 0x11 0 0 c
  | .rxClear => packWord 0x20 0 0 0
  | .rxPush c => packWord 0x21 0 0 c
  | .rxVerify => packWord 0x22 0 0 0
  | .rxRead c => packWord 0x23 0 0 c
  | .plRead c => packWord 0x24 0 0 c
  | .decInt32 => packWord 0x30 0 0 0
  | .decFloat32 => packWord 0x31 0 0 0
  | .decString => packWord 0x32 0 0 0
  | .decDate => packWord 0x33 0 0 0
  | .resRead c => packWord 0x34 0 0 c
  | .statusRead => packWord 0x40 0 0 0
  | .errRead c => packWord 0x41 0 0 c
  | .errClear => packWord 0x42 0 0 0

/-- The 32-bit word of a table word: its `nbits` bits, every bit above them 0. The word and the table number bits alike
(R15, R61), and the byte order on a bus is the platform's (spec/20_memory.md R50, log entry 11). -/
def tableWord (nbits w : Nat) : Word := BitVec.ofNat 32 (w % 2 ^ nbits)

/-- The command the decoder reads from a word numbered as spec/opcode_table.json numbers it. -/
def decodeTableWord (nbits w : Nat) : Option Instr :=
  match decode (tableWord nbits w) with
  | .ok i => some i
  | .error _ => none

end Sys2Proof
end

