-- ==== Sys2Proof/Config.lean ====
section
/-! DEFINITION. What an implementation fixes: the four parameters of spec/00_scope.md R10 to R13, the
CRC constants of R8, and the one free value of the model. -/

namespace Sys2Proof

/-- The parameters of the block. They are configuration: no command writes them (spec/10_state.md R20). -/
structure Params where
  /-- `ADDR_MAX`, 0..255: FRAME_BUILD refuses an address above it (R10). -/
  addrMax : Byte
  /-- `STRICT_NUMERIC_LENGTH`: a numeric decode of a payload longer than 6 bytes fails (R11). -/
  strictNumericLength : Bool
  /-- `TZ_OFFSET_S`, signed seconds (R12). -/
  tzOffsetS : Int
  /-- `EPOCH_OFFSET_S`, signed seconds (R13). -/
  epochOffsetS : Int
deriving DecidableEq, Repr

/-- The parameters of the spec's hardware (the defaults of R10 to R13). -/
def Params.spec : Params :=
  { addrMax := 63, strictNumericLength := false, tzOffsetS := 0, epochOffsetS := 0 }

namespace Config

/-- `CRC_INIT` (R8). -/
def crcInit : Half := 0xFFFF

/-- `CRC_POLY_R`, the reflected polynomial (R8). -/
def crcPolyR : Half := 0x8408

/-- FREE VALUE (spec/93_implementation_defined.md U11, log entry 7): when the n-th reset comes while a command is in
progress, did the command complete before it (`true`) or was it discarded (`false`)? It has no body: nothing can
evaluate it. -/
opaque completesBeforeReset : Nat → Bool

end Config
end Sys2Proof
end

