-- ==== Sys2Proof/Machine/State.lean ====
section
/-! DEFINITION. The state of the block (spec/10_state.md R20, R21), the host's side of its two ports
(spec/60_exceptions.md R132, R145), and the reset state (spec/70_reset_and_hazards.md R150). -/

namespace Sys2Proof.Machine

/-- The completion codes (spec/60_exceptions.md R131). Codes 0x9..0xF are never produced and are no values of this
type (log entry 14). -/
inductive Code where
  | ok
  | framingMismatch
  | framingShort
  | rxOverflow
  | noData
  | payloadShort
  | argRange
  | illegalCommand
  | payloadLong
deriving DecidableEq, Repr

/-- `RES_TAG` (spec/10_state.md R29). Tags 5..7 are never written and are no values of this type (log entry 14). -/
inductive ResTag where
  | none
  | int32
  | float32
  | string
  | date
deriving DecidableEq, Repr

/-- What the completion port returns for one command (spec/60_exceptions.md R132). -/
structure Completion where
  code : Code
  resp : Word
deriving DecidableEq, Repr

/-- What the outside world can do to the block: present a command word (spec/60_exceptions.md R145), assert reset between
commands, or assert reset while a command is in progress (spec/70_reset_and_hazards.md R150). -/
inductive Input where
  | command (w : Word)
  | reset
  | resetDuring (w : Word)
deriving DecidableEq, Repr

/-- Reasons to stop with a fault: there are none. "The block has no traps" and "No failure stops the block"
(spec/60_exceptions.md R130): every failure is a completion code in a next state. -/
inductive Fault where
deriving DecidableEq, Repr

/-- Reasons to give no meaning. -/
inductive Refusal where
  /-- Raised by `exec` for a command that has no meaning yet. No arm raises it. Safe. -/
  | notModelled (mnemonic : String)
  /-- Raised by DEC_DATE alone, when it would compute a date under parameters outside the constraint of
  spec/00_scope.md R14 (spec/93_implementation_defined.md U10, treatment "refuse"; log entry 5). Safe. -/
  | parametersOutsideConstraint
deriving DecidableEq, Repr

/-- The block's state, exactly the tuple of R20 with the widths of R21. -/
structure Block where
  /-- CRC_ACC: the running CRC before the final complement (R24). -/
  crcAcc : Half
  /-- TX_FRAME[0..9]: the last frame built (R25). -/
  txFrame : Vector Byte 10
  /-- TX_VALID (R25). -/
  txValid : Bool
  /-- RX_BUF[0..15]: the response being received (R26). -/
  rxBuf : Vector Byte 16
  /-- RX_LEN, 0..16 (R26). -/
  rxLen : Fin 17
  /-- PL_VALID (R27). -/
  plValid : Bool
  /-- PL_LEN, 0..14 (R27). -/
  plLen : Fin 15
  /-- RES_TAG (R29). -/
  resTag : ResTag
  /-- RES_WORD (R30). -/
  resWord : Word
  /-- RES_RAW (R30). -/
  resRaw : Word
  /-- RES_STR[0..11] (R30). -/
  resStr : Vector Byte 12
  /-- RES_SLEN, 0..12 (R30). -/
  resSlen : Fin 13
  /-- LAST_CODE (R31). -/
  lastCode : Code
  /-- STICKY (R32). -/
  sticky : Bool
  /-- ERR_CAUSE (R33). -/
  errCause : Code
  /-- ERR_CMD (R33). -/
  errCmd : Word
  /-- ERR_CRC_CALC (R34). -/
  errCrcCalc : Half
  /-- ERR_CRC_RECV (R34). -/
  errCrcRecv : Half
deriving DecidableEq, Repr

/-- The whole state of the model: the block, its parameters, and the host's side of the ports. -/
structure State extends Block where
  /-- The parameters (spec/00_scope.md R10 to R13): configuration, which no step changes (log entry 4). -/
  params : Params
  /-- The inputs yet to be presented, the next one first (log entry 1). -/
  inbox : List Input
  /-- The completions the host has received, oldest first (spec/70_reset_and_hazards.md R161, log entry 3). -/
  completions : List Completion
  /-- How many resets have come during a command: the argument of the free value (log entry 7). -/
  resetDraws : Nat
deriving DecidableEq, Repr

/-- Every register after reset (R21, R150). -/
def Block.reset : Block :=
  { crcAcc := 0xFFFF
    txFrame := Vector.replicate 10 0x00
    txValid := false
    rxBuf := Vector.replicate 16 0x00
    rxLen := 0
    plValid := false
    plLen := 0
    resTag := .none
    resWord := 0
    resRaw := 0
    resStr := Vector.replicate 12 0x00
    resSlen := 0
    lastCode := .ok
    sticky := false
    errCause := .ok
    errCmd := 0
    errCrcCalc := 0
    errCrcRecv := 0 }

/-- The machine right after reset: the registers of R150, the parameters of the spec's hardware, nothing presented and
nothing completed. -/
def State.reset : State :=
  { Block.reset with params := Params.spec, inbox := [], completions := [], resetDraws := 0 }

end Sys2Proof.Machine
end

