-- ==== Sys2Proof/Machine/Operands.lean ====
section
/-! DEFINITION. Operand forms: byte order of the multi-byte fields (spec/20_memory.md R45 to R47), the views of the
byte buffers (spec/10_state.md R26, R27, R37), and the two selectors (spec/42_decode.md R109, spec/43_status.md
R121). -/

namespace Sys2Proof.Machine

/-- Bits [7:0] of a CRC: the byte that goes first on the wire (R45). -/
def lowByte (k : Half) : Byte := k.extractLsb' 0 8

/-- Bits [15:8] of a CRC: the byte that goes second on the wire (R45). -/
def highByte (k : Half) : Byte := k.extractLsb' 8 8

/-- The CRC of a little-endian trailer, `{second, first}` (R46). -/
def halfOfTrailer (first second : Byte) : Half := second ++ first

/-- The big-endian word of four payload bytes (R47). -/
def wordOfBytes (b0 b1 b2 b3 : Byte) : Word := b0 ++ b1 ++ b2 ++ b3

/-- The response bytes received so far, RX_BUF[0..RX_LEN) (R26). -/
def rxBytes (s : State) : List Byte := s.rxBuf.toList.take s.rxLen.val

/-- The payload view, RX_BUF[0..PL_LEN) (R27). It means something while PL_VALID is 1. -/
def payloadBytes (s : State) : List Byte := s.rxBuf.toList.take s.plLen.val

/-- The decoded string, RES_STR[0..RES_SLEN) (R37). -/
def resultString (s : State) : List Byte := s.resStr.toList.take s.resSlen.val

/-- The selectors of RES_READ (R109). -/
inductive ResSelector where
  | tag
  | word
  | raw
  | slen
  | str (i : Nat)
deriving DecidableEq, Repr

/-- The selector a byte names: 0x00..0x03 and 0x10..0x1B, no other (R109). -/
def resSelector (c : Byte) : Option ResSelector :=
  if c.toNat = 0x00 then some .tag
  else if c.toNat = 0x01 then some .word
  else if c.toNat = 0x02 then some .raw
  else if c.toNat = 0x03 then some .slen
  else if 0x10 ≤ c.toNat ∧ c.toNat ≤ 0x1B then some (.str (c.toNat - 0x10))
  else none

/-- The selectors of ERR_READ (R121). -/
inductive ErrSelector where
  | cause
  | cmd
  | crcCalc
  | crcRecv
deriving DecidableEq, Repr

/-- The selector a byte names: 0x00..0x03, no other (R121). -/
def errSelector (c : Byte) : Option ErrSelector :=
  if c.toNat = 0x00 then some .cause
  else if c.toNat = 0x01 then some .cmd
  else if c.toNat = 0x02 then some .crcCalc
  else if c.toNat = 0x03 then some .crcRecv
  else none

end Sys2Proof.Machine
end

