-- ==== Sys2Proof/Machine/Calendar.lean ====
section
/-! DEFINITION. The calendar date of a timestamp (spec/42_decode.md R107, R108) and the constraint on
the parameters that keeps its year in range (spec/00_scope.md R14). Integer division by a positive number
rounds down in Lean, as R16 asks. -/

namespace Sys2Proof

/-- The seconds DEC_DATE adds to a timestamp (spec/42_decode.md R107). -/
def Params.dateOffset (p : Params) : Int := p.epochOffsetS + p.tzOffsetS

/-- R14's constraint, exactly: every timestamp 0 .. 2^32 - 1 falls, after the offsets, on a day from 0001-01-01
(day -719162 of 1970-01-01) to 9999-12-31 (day 2932896), so that every year lies in 1..9999. DEDUCED: R14 names the
years and gives a sufficient bound; the two days are those of spec/42_decode.md R108. -/
def Params.legal (p : Params) : Bool :=
  decide (-719162 * 86400 ≤ p.dateOffset ∧ p.dateOffset + 4294967295 < 2932897 * 86400)

namespace Machine

/-- A calendar date. -/
structure Date where
  year : Int
  month : Int
  day : Int
deriving DecidableEq, Repr

/-- `civil_from_days`: the proleptic Gregorian date that lies `z` days after 1970-01-01 (R108). -/
def civilFromDays (z : Int) : Date :=
  let z := z + 719468
  let era := z / 146097
  let doe := z - era * 146097
  let yoe := (doe - doe / 1460 + doe / 36524 - doe / 146096) / 365
  let y := yoe + era * 400
  let doy := doe - (365 * yoe + yoe / 4 - yoe / 100)
  let mp := (5 * doy + 2) / 153
  let d := doy - (153 * mp + 2) / 5 + 1
  let m := if mp < 10 then mp + 3 else mp - 9
  { year := if m ≤ 2 then y + 1 else y, month := m, day := d }

/-- The date of a timestamp word, read unsigned, under the parameters' offsets (R107). -/
def dateOfTimestamp (p : Params) (w : Word) : Date :=
  civilFromDays (((w.toNat : Int) + p.dateOffset) / 86400)

/-- `{year[15:0], month[7:0], day[7:0]}` (R107, spec/10_state.md R30). -/
def packDate (d : Date) : Word :=
  BitVec.ofInt 16 d.year ++ BitVec.ofInt 8 d.month ++ BitVec.ofInt 8 d.day

end Machine
end Sys2Proof
end

