-- ==== Sys2Proof/Machine/Checksum.lean ====
section
/-! DEFINITION. The pure functions of the wire formats: the CRC (spec/40_crc.md R70, R71), the request frame
(spec/41_frame.md R81) and the check of a response (R86). No state is read or written here (R72). -/

namespace Sys2Proof.Machine

/-- One bit of the CRC (the loop body of R71). -/
def crcBit (acc : Half) (bit : Bool) : Half :=
  if (acc.getLsbD 0 ^^ bit) = true then (acc >>> 1) ^^^ Config.crcPolyR else acc >>> 1

/-- `crc_byte`: the byte's bits from bit 0 to bit 7 (R71, spec/20_memory.md R49). -/
def crcByte (acc : Half) (x : Byte) : Half :=
  [0, 1, 2, 3, 4, 5, 6, 7].foldl (fun a i => crcBit a (x.getLsbD i)) acc

/-- `crc16` of a byte sequence of any length (R70). -/
def crc16 (s : List Byte) : Half := ~~~ (s.foldl crcByte Config.crcInit)

/-- The first 8 bytes of a frame (R80, R81): no operand reaches bytes 3 to 7 (R82). -/
def frameBody (a b c : Byte) : List Byte := [a, b, c, 0x00, 0x00, 0x00, 0x00, 0x00]

/-- `build_frame`: the body and its little-endian CRC, 10 bytes (R81). -/
def buildFrame (a b c : Byte) : Vector Byte 10 :=
  #v[a, b, c, 0x00, 0x00, 0x00, 0x00, 0x00,
    lowByte (crc16 (frameBody a b c)), highByte (crc16 (frameBody a b c))]

/-- The outcomes of `strip_and_verify` (R86). -/
inductive Stripped where
  | short
  | mismatch (calcCrc recvCrc : Half)
  | payload (p : List Byte)
deriving DecidableEq, Repr

/-- `strip_and_verify`: fewer than two bytes are SHORT, else the last two are the trailer of the bytes before them
(R86). -/
def stripAndVerify (s : List Byte) : Stripped :=
  match s.drop (s.length - 2) with
  | [first, second] =>
    let body := s.take (s.length - 2)
    if crc16 body = halfOfTrailer first second then .payload body
    else .mismatch (crc16 body) (halfOfTrailer first second)
  | _ => .short

end Sys2Proof.Machine
end

