-- ==== Sys2Proof/Machine/Flags.lean ====
section
/-! DEFINITION. The status fields as software reads them: the numbers of codes and tags (spec/60_exceptions.md R131,
spec/10_state.md R29) and the status word (R35). The block has no other flags (R36). -/

namespace Sys2Proof.Machine

/-- The number of a completion code, 4 bits (R131). -/
def codeBits : Code → BitVec 4
  | .ok => 0x0
  | .framingMismatch => 0x1
  | .framingShort => 0x2
  | .rxOverflow => 0x3
  | .noData => 0x4
  | .payloadShort => 0x5
  | .argRange => 0x6
  | .illegalCommand => 0x7
  | .payloadLong => 0x8

/-- The number of a result tag, 3 bits (R29). -/
def tagBits : ResTag → BitVec 3
  | .none => 0
  | .int32 => 1
  | .float32 => 2
  | .string => 3
  | .date => 4

/-- A 1-bit register as a bit. -/
def flagBit (b : Bool) : BitVec 1 := BitVec.ofBool b

/-- The status word, from bit 31 down to bit 0 (R35). -/
def statusWord (s : State) : Word :=
  (0 : BitVec 4) ++ BitVec.ofNat 4 s.plLen.val ++ (0 : BitVec 3) ++ BitVec.ofNat 5 s.rxLen.val ++
  (0 : BitVec 5) ++ tagBits s.resTag ++ (0 : BitVec 1) ++ flagBit s.plValid ++ flagBit s.txValid ++
  flagBit s.sticky ++ codeBits s.lastCode

end Sys2Proof.Machine
end

