-- ==== Sys2Proof/Machine/Ops.lean ====
section
/-! DEFINITION. The shared operations: how a command ends (spec/00_scope.md R19, spec/60_exceptions.md R132, R133) and
what several commands do alike (reading one byte, the payload view, the result registers, the numeric word). -/

namespace Sys2Proof.Machine

/-- The outcome of a command. -/
abbrev Result := Host.Outcome State Fault Refusal

/-- The completion port returns the pair (code, response) to the host (R132). It writes no register. -/
def respond (code : Code) (resp : Word) (s : State) : State :=
  { s with completions := s.completions ++ [⟨code, resp⟩] }

/-- `complete(resp)` in a status-updating command (R19, R133). -/
def complete (resp : Word) (s : State) : State :=
  respond .ok resp { s with lastCode := .ok }

/-- `raise K(info)` in the status-updating command with word `w`: R133's writes, response 0 (R132). It is this block's
whole form of taking an exception: nothing traps, no mode changes (R130, R137), and there is no return (R138). -/
def raise (w : Word) (k : Code) (s : State) : State :=
  respond k 0 { s with lastCode := k, sticky := true, errCause := k, errCmd := w }

/-- Reads one byte at an index and completes with it zero-extended; past the end the command fails with ARG_RANGE
(spec/20_memory.md R51, spec/30_encoding.md R63). -/
def readByte (w : Word) (bytes : List Byte) (index : Nat) (s : State) : State :=
  match bytes[index]? with
  | some b => complete (b.setWidth 32) s
  | none => raise w .argRange s

/-- Makes the payload invalid (spec/10_state.md R27). -/
def invalidatePayload (s : State) : State := { s with plValid := false, plLen := 0 }

/-- Writes all five result fields (spec/10_state.md R30). -/
def writeResult (tag : ResTag) (word raw : Word) (str : Vector Byte 12) (slen : Fin 13) (s : State) : State :=
  { s with resTag := tag, resWord := word, resRaw := raw, resStr := str, resSlen := slen }

/-- RES_STR all 0x00. -/
def emptyString : Vector Byte 12 := Vector.replicate 12 0x00

/-- `clear_result` (spec/42_decode.md R100). -/
def clearResult (s : State) : State := writeResult .none 0 0 emptyString 0 s

/-- `numeric_word`: the big-endian word of payload bytes 2..5, or the code of the first check that fails
(spec/42_decode.md R101, R102). The caller clears the result before it raises. -/
def numericWord (s : State) : Except Code Word :=
  if s.plValid = false then .error .noData
  else if s.plLen.val < 6 then .error .payloadShort
  else if s.params.strictNumericLength = true ∧ 6 < s.plLen.val then .error .payloadLong
  else .ok (wordOfBytes s.rxBuf[2] s.rxBuf[3] s.rxBuf[4] s.rxBuf[5])

/-- A decode command that fails: the result is cleared, then the failure is raised (R100). -/
def failDecode (w : Word) (k : Code) (s : State) : State := raise w k (clearResult s)

/-- A numeric decode that succeeds: the five result fields, with no string, and the word as response (R103, R104,
R107). -/
def finishNumeric (tag : ResTag) (word raw : Word) (s : State) : State :=
  complete word (writeResult tag word raw emptyString 0 s)

/-- A selector of RES_READ that needs a result: NO_DATA when there is none (R109). -/
def needResult (w : Word) (s : State) (t : State) : State :=
  if s.resTag = .none then raise w .noData s else t

end Sys2Proof.Machine
end

