-- ==== Sys2Proof/Machine/Crc.lean ====
section
/-! DEFINITION. The CRC family: NOP, CRC_INIT, CRC_BYTE, CRC_READ (spec/40_crc.md). -/

namespace Sys2Proof.Machine

/-- NOP (R73). -/
def execNop (s : State) : Result := .next (complete 0 s)

/-- CRC_INIT (R74). -/
def execCrcInit (s : State) : Result := .next (complete 0 { s with crcAcc := Config.crcInit })

/-- CRC_BYTE (R75). -/
def execCrcByte (c : Byte) (s : State) : Result :=
  .next (complete 0 { s with crcAcc := crcByte s.crcAcc c })

/-- CRC_READ (R76). -/
def execCrcRead (s : State) : Result := .next (complete ((~~~ s.crcAcc).setWidth 32) s)

end Sys2Proof.Machine
end

