-- ==== Sys2Proof/Machine/Frame.lean ====
section
/-! DEFINITION. The frame encoder: FRAME_BUILD, FRAME_READ (spec/41_frame.md R83, R84). -/

namespace Sys2Proof.Machine

/-- FRAME_BUILD (R83): the response is the frame's CRC, `{f[9], f[8]}`. -/
def execFrameBuild (a b c : Byte) (s : State) : Result :=
  if s.params.addrMax.toNat < a.toNat then .next (raise (encode (.frameBuild a b c)) .argRange s)
  else
    let f := buildFrame a b c
    .next (complete ((halfOfTrailer f[8] f[9]).setWidth 32) { s with txFrame := f, txValid := true })

/-- FRAME_READ (R84). -/
def execFrameRead (c : Byte) (s : State) : Result :=
  if s.txValid = false then .next (raise (encode (.frameRead c)) .noData s)
  else .next (readByte (encode (.frameRead c)) s.txFrame.toList c.toNat s)

end Sys2Proof.Machine
end

