-- ==== Sys2Proof/Machine/Response.lean ====
section
/-! DEFINITION. The response verifier: RX_CLEAR, RX_PUSH, RX_VERIFY, RX_READ, PL_READ (spec/41_frame.md R87 to R91). -/

namespace Sys2Proof.Machine

/-- RX_CLEAR (R87): RX_BUF keeps its bytes. -/
def execRxClear (s : State) : Result :=
  .next (complete 0 (invalidatePayload { s with rxLen := 0 }))

/-- RX_PUSH (R88). -/
def execRxPush (c : Byte) (s : State) : Result :=
  if h : s.rxLen.val < 16 then
    .next (complete (BitVec.ofNat 32 (s.rxLen.val + 1))
      (invalidatePayload { s with rxBuf := s.rxBuf.set s.rxLen.val c h, rxLen := ⟨s.rxLen.val + 1, by omega⟩ }))
  else .next (raise (encode (.rxPush c)) .rxOverflow s)

/-- The payload length RX_VERIFY sets, RX_LEN - 2 (R27, R89). -/
def strippedLength (n : Fin 17) : Fin 15 := ⟨n.val - 2, by omega⟩

/-- RX_VERIFY (R89). -/
def execRxVerify (s : State) : Result :=
  match stripAndVerify (rxBytes s) with
  | .short => .next (raise (encode .rxVerify) .framingShort (invalidatePayload s))
  | .mismatch calcCrc recvCrc =>
    .next (raise (encode .rxVerify) .framingMismatch
      { invalidatePayload s with errCrcCalc := calcCrc, errCrcRecv := recvCrc })
  | .payload _ =>
    .next (complete (BitVec.ofNat 32 (strippedLength s.rxLen).val)
      { s with plValid := true, plLen := strippedLength s.rxLen })

/-- RX_READ (R90). -/
def execRxRead (c : Byte) (s : State) : Result :=
  .next (readByte (encode (.rxRead c)) (rxBytes s) c.toNat s)

/-- PL_READ (R91). -/
def execPlRead (c : Byte) (s : State) : Result :=
  if s.plValid = false then .next (raise (encode (.plRead c)) .noData s)
  else .next (readByte (encode (.plRead c)) (payloadBytes s) c.toNat s)

end Sys2Proof.Machine
end

