-- ==== Sys2Proof/Machine/Status.lean ====
section
/-! DEFINITION. The status commands: STATUS_READ, ERR_READ, ERR_CLEAR (spec/43_status.md). The first two are
status-neutral: they write no register, on success or failure (spec/60_exceptions.md R133). -/

namespace Sys2Proof.Machine

/-- STATUS_READ (R120). -/
def execStatusRead (s : State) : Result := .next (respond .ok (statusWord s) s)

/-- ERR_READ (R121). -/
def execErrRead (c : Byte) (s : State) : Result :=
  match errSelector c with
  | none => .next (respond .argRange 0 s)
  | some .cause => .next (respond .ok ((codeBits s.errCause).setWidth 32) s)
  | some .cmd => .next (respond .ok s.errCmd s)
  | some .crcCalc => .next (respond .ok (s.errCrcCalc.setWidth 32) s)
  | some .crcRecv => .next (respond .ok (s.errCrcRecv.setWidth 32) s)

/-- ERR_CLEAR (R122). -/
def execErrClear (s : State) : Result :=
  .next (complete 0
    { s with sticky := false, errCause := .ok, errCmd := 0, errCrcCalc := 0, errCrcRecv := 0 })

end Sys2Proof.Machine
end

