-- ==== Sys2Proof/Machine/Typed.lean ====
section
/-! DEFINITION. The typed-value decoder: DEC_INT32, DEC_FLOAT32, DEC_STRING, DEC_DATE, RES_READ (spec/42_decode.md). -/

namespace Sys2Proof.Machine

/-- DEC_INT32 (R103). -/
def execDecInt32 (s : State) : Result :=
  match numericWord s with
  | .error k => .next (failDecode (encode .decInt32) k s)
  | .ok w => .next (finishNumeric .int32 w w s)

/-- DEC_FLOAT32 (R104): the bit pattern exactly. -/
def execDecFloat32 (s : State) : Result :=
  match numericWord s with
  | .error k => .next (failDecode (encode .decFloat32) k s)
  | .ok w => .next (finishNumeric .float32 w w s)

/-- The string length of a payload, PL_LEN - 2 (R106). -/
def stringLength (n : Fin 15) : Fin 13 := ⟨n.val - 2, by omega⟩

/-- RES_STR of a string of `n` bytes: payload bytes 2.. in order, then 0x00 fill (R106). -/
def stringField (buf : Vector Byte 16) (n : Fin 13) : Vector Byte 12 :=
  Vector.ofFn fun i : Fin 12 => if i.val < n.val then buf[2 + i.val] else 0x00

/-- DEC_STRING (R106). -/
def execDecString (s : State) : Result :=
  if s.plValid = false then .next (failDecode (encode .decString) .noData s)
  else if s.plLen.val < 2 then .next (failDecode (encode .decString) .payloadShort s)
  else
    let n := stringLength s.plLen
    .next (complete (BitVec.ofNat 32 n.val) (writeResult .string 0 0 (stringField s.rxBuf n) n s))

/-- DEC_DATE (R107). Under parameters outside R14's constraint the spec gives no date: the model refuses
(spec/93_implementation_defined.md U10, log entry 5). -/
def execDecDate (s : State) : Result :=
  match numericWord s with
  | .error k => .next (failDecode (encode .decDate) k s)
  | .ok w =>
    if s.params.legal = true then .next (finishNumeric .date (packDate (dateOfTimestamp s.params w)) w s)
    else .refused .parametersOutsideConstraint

/-- RES_READ (R109): an unknown selector fails before the lack of a result does. -/
def execResRead (c : Byte) (s : State) : Result :=
  match resSelector c with
  | none => .next (raise (encode (.resRead c)) .argRange s)
  | some .tag => .next (complete ((tagBits s.resTag).setWidth 32) s)
  | some .word => .next (needResult (encode (.resRead c)) s (complete s.resWord s))
  | some .raw => .next (needResult (encode (.resRead c)) s (complete s.resRaw s))
  | some .slen => .next (needResult (encode (.resRead c)) s (complete (BitVec.ofNat 32 s.resSlen.val) s))
  | some (.str i) =>
    .next (needResult (encode (.resRead c)) s (readByte (encode (.resRead c)) (resultString s) i s))

end Sys2Proof.Machine
end

