-- ==== Sys2Proof/Machine/Dispatch.lean ====
section
/-! DEFINITION. One arm per command, each one call of its meaning. -/

namespace Sys2Proof.Machine

def exec (i : Instr) (s : State) : Host.Outcome State Fault Refusal :=
  match i with
  | .nop => Sys2Proof.Machine.execNop s
  | .crcInit => Sys2Proof.Machine.execCrcInit s
  | .crcByte c => Sys2Proof.Machine.execCrcByte c s
  | .crcRead => Sys2Proof.Machine.execCrcRead s
  | .frameBuild a b c => Sys2Proof.Machine.execFrameBuild a b c s
  | .frameRead c => Sys2Proof.Machine.execFrameRead c s
  | .rxClear => Sys2Proof.Machine.execRxClear s
  | .rxPush c => Sys2Proof.Machine.execRxPush c s
  | .rxVerify => Sys2Proof.Machine.execRxVerify s
  | .rxRead c => Sys2Proof.Machine.execRxRead c s
  | .plRead c => Sys2Proof.Machine.execPlRead c s
  | .decInt32 => Sys2Proof.Machine.execDecInt32 s
  | .decFloat32 => Sys2Proof.Machine.execDecFloat32 s
  | .decString => Sys2Proof.Machine.execDecString s
  | .decDate => Sys2Proof.Machine.execDecDate s
  | .resRead c => Sys2Proof.Machine.execResRead c s
  | .statusRead => Sys2Proof.Machine.execStatusRead s
  | .errRead c => Sys2Proof.Machine.execErrRead c s
  | .errClear => Sys2Proof.Machine.execErrClear s

end Sys2Proof.Machine
end

