-- ==== Sys2Proof/Machine/Port.lean ====
section
/-! DEFINITION. What the block does with one input: a command word (spec/30_encoding.md R65, R66,
spec/60_exceptions.md R145) or its reset (spec/70_reset_and_hazards.md R150). -/

namespace Sys2Proof.Machine

/-- An ILLEGAL word: the failure ILLEGAL_COMMAND, which records the whole word (R66, R133). -/
def illegalCommand (w : Word) (s : State) : Result := .next (raise w .illegalCommand s)

/-- Executes one command word (R65, R145). -/
def runWord (w : Word) (s : State) : Result :=
  match decode w with
  | .ok i => exec i s
  | .error _ => illegalCommand w s

/-- Reset: every register of R21 at its reset value. The parameters are not reset (R150), and what the host has
received or will present is not the block's. -/
def applyReset (s : State) : State := { s with toBlock := Block.reset }

/-- A command word that was in progress when reset came, and completed entirely before it (R150). -/
def completeThenReset (w : Word) (s : State) : Result :=
  match runWord w s with
  | .next t => .next (applyReset t)
  | .fault r => .fault r
  | .refused r => .refused r

/-- Reset asserted while the word `w` is in progress: the command either completes entirely before reset or is discarded
entirely, with no completion (R150). Which of the two is a free value (spec/93_implementation_defined.md U11, log entry
7). -/
def resetDuring (w : Word) (s : State) : Result :=
  if Config.completesBeforeReset s.resetDraws = true then
    completeThenReset w { s with resetDraws := s.resetDraws + 1 }
  else .next (applyReset { s with resetDraws := s.resetDraws + 1 })

/-- The block's answer to one input. -/
def acceptInput (x : Input) (s : State) : Result :=
  match x with
  | .command w => runWord w s
  | .reset => .next (applyReset s)
  | .resetDuring w => resetDuring w s

/-- With nothing presented the block holds its state (spec/60_exceptions.md R146, log entry 2). -/
def takeInput (s : State) : Result :=
  match s.inbox with
  | [] => .next s
  | x :: rest => acceptInput x { s with inbox := rest }

end Sys2Proof.Machine
end

