-- ==== Sys2Proof/Machine/Step.lean ====
section
/-! DEFINITION. One step: the next input of the host, executed atomically (spec/20_memory.md R52, R54,
spec/70_reset_and_hazards.md R160). -/

namespace Sys2Proof.Machine

/-- One step of the machine. -/
def step (s : State) : Host.Outcome State Fault Refusal := takeInput s

/-- The state in which the host presents this word next. The block stores and fetches no program (spec/00_scope.md R4,
spec/10_state.md R23): the word comes in front of the inputs yet to be presented (log entry 1). -/
def State.withFetchWord (s : State) (nbits w : Nat) : State :=
  { s with inbox := .command (tableWord nbits w) :: s.inbox }

end Sys2Proof.Machine
end

