-- ==== Sys2Proof/Machine/Assembler.lean ====
section
/-! DEFINITION. The spec's assembler (spec/30_encoding.md R69): one line of text gives the words it stands for, or
nothing when it is an assembler error. It is no part of the block: the host's programs are written in it. What R69 does
not fix (which characters are blanks, letter case of hex digits, an empty line) is log entry 12. -/

namespace Sys2Proof.Machine

/-- `CRC_BLOCK x0, ..., xk` (R69). -/
def crcBlock (bytes : List Byte) : List Instr := .crcInit :: bytes.map .crcByte ++ [.crcRead]

/-- `RX_LOAD x0, ..., xk` (R69). -/
def rxLoad (bytes : List Byte) : List Instr := .rxClear :: bytes.map .rxPush

namespace Asm

/-- A blank between the parts of a line. -/
def blank (c : Char) : Bool := c == ' ' || c == '\t'

/-- A text without the blanks around it. -/
def trim (t : List Char) : List Char := ((t.dropWhile blank).reverse.dropWhile blank).reverse

/-- The value of a digit in a base of at most 16. -/
def digit (base : Nat) (c : Char) : Option Nat :=
  let v :=
    if '0' ≤ c ∧ c ≤ '9' then c.toNat - '0'.toNat
    else if 'a' ≤ c ∧ c ≤ 'f' then c.toNat - 'a'.toNat + 10
    else if 'A' ≤ c ∧ c ≤ 'F' then c.toNat - 'A'.toNat + 10
    else base
  if v < base then some v else none

/-- The number a non-empty run of digits stands for. -/
def digits (base : Nat) : List Char → Option Nat
  | [] => none
  | ds => ds.foldl (fun n c => n.bind fun v => (digit base c).map fun d => v * base + d) (some 0)

/-- A number: decimal, or hex after `0x` (R69). -/
def number : List Char → Option Nat
  | '0' :: 'x' :: ds => digits 16 ds
  | ds => digits 10 ds

/-- A number of at most `n` bits; one that does not fit is an assembler error (R69). -/
def fits (n : Nat) (t : List Char) : Option (BitVec n) :=
  (number t).bind fun v => if v < 2 ^ n then some (BitVec.ofNat n v) else none

/-- A byte operand (R69). -/
def byte (t : List Char) : Option Byte := fits 8 t

/-- The selector of RES_READ: `TAG`, `WORD`, `RAW`, `SLEN`, `STR+i` (i = 0..11), or a number (R69). -/
def resultSelector (t : List Char) : Option Byte :=
  if t = "TAG".toList then some 0x00
  else if t = "WORD".toList then some 0x01
  else if t = "RAW".toList then some 0x02
  else if t = "SLEN".toList then some 0x03
  else match t with
    | 'S' :: 'T' :: 'R' :: '+' :: i => (number i).bind fun v => if v ≤ 11 then some (BitVec.ofNat 8 (0x10 + v)) else none
    | _ => byte t

/-- The selector of ERR_READ: `CAUSE`, `CMD`, `CALC`, `RECV`, or a number (R69). -/
def errorSelector (t : List Char) : Option Byte :=
  if t = "CAUSE".toList then some 0x00
  else if t = "CMD".toList then some 0x01
  else if t = "CALC".toList then some 0x02
  else if t = "RECV".toList then some 0x03
  else byte t

/-- A list of at least one and at most `most` byte operands. -/
def bytes (most : Option Nat) (ops : List (List Char)) : Option (List Byte) :=
  match ops.mapM byte with
  | some [] => none
  | some bs => match most with
    | none => some bs
    | some n => if bs.length ≤ n then some bs else none
  | none => none

/-- The operands after the mnemonic, separated by commas. -/
def operands (t : List Char) : List (List Char) :=
  if trim t = [] then [] else (t.splitOn ',').map trim

/-- The commands without operands (R69, first row). -/
def plain : List (String × Instr) :=
  [ ("NOP", .nop), ("CRC_INIT", .crcInit), ("CRC_READ", .crcRead), ("RX_CLEAR", .rxClear), ("RX_VERIFY", .rxVerify),
    ("DEC_INT32", .decInt32), ("DEC_FLOAT32", .decFloat32), ("DEC_STRING", .decString), ("DEC_DATE", .decDate),
    ("STATUS_READ", .statusRead), ("ERR_CLEAR", .errClear) ]

/-- The commands with the one operand C, each with the way its operand is written (R69). -/
def oneOperand : List (String × (List Char → Option Byte) × (Byte → Instr)) :=
  [ ("CRC_BYTE", byte, .crcByte), ("FRAME_READ", byte, .frameRead), ("RX_PUSH", byte, .rxPush),
    ("RX_READ", byte, .rxRead), ("PL_READ", byte, .plRead), ("RES_READ", resultSelector, .resRead),
    ("ERR_READ", errorSelector, .errRead) ]

/-- The commands a mnemonic with its operands stands for, pseudo-instructions expanded (R69). -/
def commands (mnemonic : List Char) (ops : List (List Char)) : Option (List Instr) :=
  match plain.find? (fun p => p.1.toList == mnemonic), oneOperand.find? (fun p => p.1.toList == mnemonic), ops with
  | some p, _, [] => some [p.2]
  | none, some p, [c] => (p.2.1 c).map fun b => [p.2.2 b]
  | none, none, _ =>
    if mnemonic = "FRAME_BUILD".toList then
      match ops.mapM byte with
      | some [a, b] => some [.frameBuild a b 0x00]
      | some [a, b, c] => some [.frameBuild a b c]
      | _ => none
    else if mnemonic = "CRC_BLOCK".toList then (bytes none ops).map crcBlock
    else if mnemonic = "RX_LOAD".toList then (bytes (some 16) ops).map rxLoad
    else none
  | _, _, _ => none

/-- The words a mnemonic with its operands stands for: `.word v` is the value itself, whatever it decodes to, and all else
the words of its commands (R69). -/
def words (mnemonic : List Char) (ops : List (List Char)) : Option (List Word) :=
  if mnemonic = ".word".toList then
    match ops with
    | [v] => (fits 32 v).map fun w => [w]
    | _ => none
  else (commands mnemonic ops).map fun is => is.map encode

/-- The words of a line: a comment runs from `#` to the end, the mnemonic comes first, and a line with neither stands for
no word (R69, log entry 12). -/
def line (text : String) : Option (List Word) :=
  let code := trim (text.toList.takeWhile (· != '#'))
  let mnemonic := code.takeWhile (fun c => !blank c)
  if code = [] then some [] else words mnemonic (operands (code.drop mnemonic.length))

end Asm
end Sys2Proof.Machine
end

