-- ==== Sys2Proof/Machine/Values.lean ====
section
/-! DEFINITION. What a decoded value means: `s32` (spec/00_scope.md R16), `binary32` (spec/42_decode.md R105) and the
value the result registers hold (spec/10_state.md R30). The block itself only moves the bits (R104); this is how a
reader of its registers interprets them. -/

namespace Sys2Proof.Machine

/-- `s32`: the two's-complement reading of a word (R16, R103). -/
def s32 (w : Word) : Int := if w.toNat < 2 ^ 31 then (w.toNat : Int) else (w.toNat : Int) - 2 ^ 32

/-- The value of an IEEE-754 binary32 number (R105). A finite value is
`(-1)^negative * significand * 2^exponent`, exactly. -/
inductive Binary32 where
  | infinity (negative : Bool)
  | nan (negative quiet : Bool) (fraction : BitVec 23)
  | finite (negative : Bool) (significand : Nat) (exponent : Int)
deriving DecidableEq, Repr

/-- `binary32` (R105): sign `w[31]`, exponent `w[30:23]`, fraction `w[22:0]`. -/
def binary32 (w : Word) : Binary32 :=
  let negative := w.getLsbD 31
  let e := (w.extractLsb' 23 8).toNat
  let f := w.extractLsb' 0 23
  if e = 255 then
    if f.toNat = 0 then .infinity negative else .nan negative (f.getLsbD 22) f
  else if e = 0 then .finite negative f.toNat (-149)
  else .finite negative (2 ^ 23 + f.toNat) ((e : Int) - 150)

/-- The decoded value by its tag. -/
inductive Value where
  | int (v : Int)
  | float (v : Binary32)
  | string (bytes : List Byte)
  | date (d : Date)
deriving DecidableEq, Repr

/-- The calendar fields of a packed date word (R30). -/
def unpackDate (w : Word) : Date :=
  { year := (w.extractLsb' 16 16).toNat
    month := (w.extractLsb' 8 8).toNat
    day := (w.extractLsb' 0 8).toNat }

/-- The value the result registers hold, if they hold one (R30). -/
def decodedValue (s : State) : Option Value :=
  match s.resTag with
  | .none => none
  | .int32 => some (.int (s32 s.resWord))
  | .float32 => some (.float (binary32 s.resWord))
  | .string => some (.string (resultString s))
  | .date => some (.date (unpackDate s.resWord))

end Sys2Proof.Machine
end

