-- ==== Sys2Proof/Safety.lean ====
section
/-! DEFINITION. The words in which claims are stated: what a command's end writes, spelled out from the spec and not
through the model's own operations; the opcode map as the spec prints it; what several commands do in a row; the
invariants of the state; and the calendar. -/

namespace Sys2Proof.Safety

open Sys2Proof.Machine

/-- A success of a status-updating command (spec/60_exceptions.md R132, R133): nothing but LAST_CODE, and the pair
(OK, resp) for the host. -/
def succeeded (resp : Word) (s : State) : State :=
  { s with lastCode := .ok, completions := s.completions ++ [⟨.ok, resp⟩] }

/-- A failure K of the status-updating command with word `w` (R132, R133). -/
def failed (w : Word) (k : Code) (s : State) : State :=
  { s with lastCode := k, sticky := true, errCause := k, errCmd := w, completions := s.completions ++ [⟨k, 0⟩] }

/-- A status-neutral answer (R133): the pair for the host, and no register. -/
def answered (k : Code) (resp : Word) (s : State) : State :=
  { s with completions := s.completions ++ [⟨k, resp⟩] }

/-- The result registers as `clear_result` leaves them (spec/42_decode.md R100). -/
def resultCleared (s : State) : State :=
  { s with resTag := .none, resWord := 0, resRaw := 0, resStr := Vector.replicate 12 0, resSlen := 0 }

/-- The payload registers as RX_CLEAR, RX_PUSH and a failed RX_VERIFY leave them (spec/10_state.md R27). -/
def payloadInvalid (s : State) : State := { s with plValid := false, plLen := 0 }

/-- Every word with this OP: one whose must-be-zero fields are zero is executed as the command, and one whose are not
fails with ILLEGAL_COMMAND (spec/30_encoding.md R64, R65, R66). -/
def EncodedAs (op : Byte) (f : Format) (command : Word → Instr) : Prop :=
  ∀ (w : Word) (s : State), w.extractLsb' 24 8 = op →
    (w &&& f.mustBeZero = 0 → runWord w s = exec (command w) s) ∧
    (w &&& f.mustBeZero ≠ 0 → runWord w s = .next (failed w .illegalCommand s))

/-- The operand C of a word, `w[7:0]` (R61). -/
def operandC (w : Word) : Byte := w.extractLsb' 0 8

/-- A word with one operand, `OP << 24 | c` (R69). -/
def wordWithC (op : Word) (c : Byte) : Word := op ||| c.setWidth 32

/-- The opcode map (R64): match, mask, and the command of a word that selects the row. The masks are those of R62's
must-be-zero fields; R64's own mask column prints 0xFFFF0000 for the format C8, which would leave the field B unchecked
against R62, R66 and the rule of every such command (log entry 17). -/
def rowMap : List (Word × Word × (Word → Instr)) :=
  [ (0x00000000, 0xFFFFFFFF, fun _ => .nop),
    (0x01000000, 0xFFFFFFFF, fun _ => .crcInit),
    (0x02000000, 0xFFFFFF00, fun w => .crcByte (operandC w)),
    (0x03000000, 0xFFFFFFFF, fun _ => .crcRead),
    (0x10000000, 0xFF000000, fun w => .frameBuild (w.extractLsb' 16 8) (w.extractLsb' 8 8) (operandC w)),
    (0x11000000, 0xFFFFFF00, fun w => .frameRead (operandC w)),
    (0x20000000, 0xFFFFFFFF, fun _ => .rxClear),
    (0x21000000, 0xFFFFFF00, fun w => .rxPush (operandC w)),
    (0x22000000, 0xFFFFFFFF, fun _ => .rxVerify),
    (0x23000000, 0xFFFFFF00, fun w => .rxRead (operandC w)),
    (0x24000000, 0xFFFFFF00, fun w => .plRead (operandC w)),
    (0x30000000, 0xFFFFFFFF, fun _ => .decInt32),
    (0x31000000, 0xFFFFFFFF, fun _ => .decFloat32),
    (0x32000000, 0xFFFFFFFF, fun _ => .decString),
    (0x33000000, 0xFFFFFFFF, fun _ => .decDate),
    (0x34000000, 0xFFFFFF00, fun w => .resRead (operandC w)),
    (0x40000000, 0xFFFFFFFF, fun _ => .statusRead),
    (0x41000000, 0xFFFFFF00, fun w => .errRead (operandC w)),
    (0x42000000, 0xFFFFFFFF, fun _ => .errClear) ]

/-- The status-neutral commands (R133). -/
def statusNeutral : Instr → Bool
  | .statusRead => true
  | .errRead _ => true
  | _ => false

/-- The decode commands (spec/10_state.md R21's "DEC_*"). -/
def isDecode : Instr → Bool
  | .decInt32 => true
  | .decFloat32 => true
  | .decString => true
  | .decDate => true
  | _ => false

/-- The byte a command feeds to the CRC stream, if it feeds one (spec/40_crc.md R75). -/
def fedByte : Instr → Option Byte
  | .crcByte c => some c
  | _ => none

/-- Commands executed one after another (spec/20_memory.md R54). -/
def runCommands : List Instr → State → Result
  | [], s => .next s
  | i :: is, s =>
    match exec i s with
    | .next t => runCommands is t
    | .fault r => .fault r
    | .refused r => .refused r

/-- The two trailer bytes of a CRC, low byte first (spec/20_memory.md R45, R46). -/
def trailerOf (k : Half) : List Byte := [k.extractLsb' 0 8, k.extractLsb' 8 8]

/-- The payload registers (spec/10_state.md R27, R28): a valid payload is the response less its trailer, and the trailer
matched; an invalid one has length 0. -/
def PayloadInv (s : State) : Prop :=
  (s.plValid = true →
    s.rxBuf.toList.take s.rxLen.val =
      s.rxBuf.toList.take s.plLen.val ++ trailerOf (crc16 (s.rxBuf.toList.take s.plLen.val))) ∧
  (s.plValid = false → s.plLen = 0)

/-- The result registers by tag (R30). -/
def ResultInv (s : State) : Prop :=
  (s.resTag = .none → s.resWord = 0 ∧ s.resRaw = 0) ∧
  (s.resTag = .int32 ∨ s.resTag = .float32 → s.resRaw = s.resWord) ∧
  (s.resTag = .string → s.resWord = 0 ∧ s.resRaw = 0) ∧
  (s.resTag = .date → s.resWord = packDate (dateOfTimestamp s.params s.resRaw)) ∧
  (s.resTag ≠ .string → s.resSlen = 0) ∧
  (∀ i : Fin 12, s.resSlen.val ≤ i.val → s.resStr[i] = 0)

/-- The frame buffer (R25, spec/41_frame.md R80, R93): a built frame has its fixed shape and an address the parameter
allows, and before any is built the buffer holds its reset value. -/
def FrameInv (s : State) : Prop :=
  (s.txValid = true →
    (∀ i : Fin 10, 3 ≤ i.val → i.val ≤ 7 → s.txFrame[i] = 0) ∧
    s.txFrame[0].toNat ≤ s.params.addrMax.toNat ∧
    s.txFrame.toList.drop 8 = trailerOf (crc16 (s.txFrame.toList.take 8))) ∧
  (s.txValid = false → s.txFrame = Vector.replicate 10 0)

/-- The error registers (R31 to R34): STICKY is set exactly while a failure is recorded, a failing LAST_CODE is the
recorded one, and with nothing recorded every diagnostic is 0. -/
def ErrorInv (s : State) : Prop :=
  (s.sticky = true ↔ s.errCause ≠ .ok) ∧
  (s.lastCode ≠ .ok → s.errCause = s.lastCode) ∧
  (s.sticky = false → s.errCmd = 0 ∧ s.errCrcCalc = 0 ∧ s.errCrcRecv = 0)

/-- Two states that agree on everything but the bytes of RX_BUF at RX_LEN and above (R26, R38). -/
def AgreeButStaleBytes (s t : State) : Prop :=
  t = { s with rxBuf := t.rxBuf } ∧ t.rxBuf.toList.take s.rxLen.val = s.rxBuf.toList.take s.rxLen.val

/-- The five result fields of two states are the same. -/
def SameResult (s t : State) : Prop :=
  t.resTag = s.resTag ∧ t.resWord = s.resWord ∧ t.resRaw = s.resRaw ∧ t.resStr = s.resStr ∧ t.resSlen = s.resSlen

/-- A leap year of the Gregorian calendar. -/
def leapYear (y : Int) : Bool := decide (y % 4 = 0 ∧ (y % 100 ≠ 0 ∨ y % 400 = 0))

/-- The length of a month of the Gregorian calendar. -/
def daysInMonth (y m : Int) : Int :=
  if m = 2 then (if leapYear y = true then 29 else 28)
  else if m = 4 ∨ m = 6 ∨ m = 9 ∨ m = 11 then 30
  else 31

/-- The day after a date. -/
def nextDay (d : Date) : Date :=
  if d.day < daysInMonth d.year d.month then { d with day := d.day + 1 }
  else if d.month < 12 then { d with month := d.month + 1, day := 1 }
  else { year := d.year + 1, month := 1, day := 1 }

/-- One bit of the CRC in its unreflected form: the register shifts left and the polynomial is 0x1021
(spec/40_crc.md R79). -/
def unreflectedBit (acc : Half) (bit : Bool) : Half :=
  if (acc.getLsbD 15 ^^ bit) = true then (acc <<< 1) ^^^ 0x1021 else acc <<< 1

/-- CRC-16/X-25 by its published parameters (R79): polynomial 0x1021, initial value 0xFFFF, input bytes taken least
significant bit first, the register reflected at the end, final exclusive-or 0xFFFF. -/
def x25 (s : List Byte) : Half :=
  (s.foldl (fun acc x => [0, 1, 2, 3, 4, 5, 6, 7].foldl (fun a i => unreflectedBit a (x.getLsbD i)) acc)
    (0xFFFF : Half)).reverse ^^^ 0xFFFF

end Sys2Proof.Safety
end

