-- ==== Sys2Proof/Certificates/Slice0/Obligations.lean ====
section
/-! DEFINITION. The statements for the provers. Each docstring names the rule of spec/ it formalises. -/

open Sys2Proof Sys2Proof.Machine Sys2Proof.Safety

/-! ### Encoding -/

/-- R61, R63, R64, R65: no bit of a command is lost in its word. -/
def Obligations.DecodeUndoesEncode : Prop :=
  ∀ i : Instr, decode (encode i) = .ok i

/-- R61, R62, R65: a legal word is the word of its command. It rests on log entry 17: field B of a C8 word must be zero (by
the mask R64 prints, 0x02000100 would be CRC_BYTE 0, whose word is 0x02000000). Log entry 9 rests on it: what a failing
command records is stated in CompletionDecidesTheStatusRegisters. -/
def Obligations.EncodeUndoesDecode : Prop :=
  ∀ (w : Word) (i : Instr), decode w = .ok i → encode i = w

/-- R62, R64, R65: a word decodes to a row's command exactly when it selects the row by match and mask (the mask of R62's
must-be-zero fields, log entry 17), and it is ILLEGAL exactly when it selects none. -/
def Obligations.WordDecodesToTheRowItSelects : Prop :=
  (∀ (w : Word), ∀ row ∈ rowMap, w &&& row.2.1 = row.1 ↔ decode w = .ok (row.2.2 w)) ∧
  (∀ (w : Word), (∀ row ∈ rowMap, w &&& row.2.1 ≠ row.1) ↔ ∃ e, decode w = .error e)

/-- R64, R69: words written out from the encodings decode to the commands they stand for (one or more of each family),
and three malformed words do not. -/
def Obligations.WrittenOutWordsDecode : Prop :=
  decode 0x00000000 = .ok .nop ∧ decode 0x02000031 = .ok (.crcByte 0x31) ∧
  decode 0x10023B00 = .ok (.frameBuild 0x02 0x3B 0x00) ∧ decode 0x1100000A = .ok (.frameRead 0x0A) ∧
  decode 0x210000D2 = .ok (.rxPush 0xD2) ∧ decode 0x22000000 = .ok .rxVerify ∧
  decode 0x33000000 = .ok .decDate ∧ decode 0x3400001B = .ok (.resRead 0x1B) ∧
  decode 0x41000003 = .ok (.errRead 0x03) ∧ decode 0x42000000 = .ok .errClear ∧
  decode 0x02010000 = .error (.mustBeZero "CRC_BYTE") ∧ decode 0x05000000 = .error (.unknownOp 0x05) ∧
  decode 0x40000001 = .error (.mustBeZero "STATUS_READ")

/-- R66: a word that selects no row fails with ILLEGAL_COMMAND. The failure changes LAST_CODE, STICKY, ERR_CAUSE and
ERR_CMD, which records the whole word, and nothing else; 237 of the 256 OP values are in no row. -/
def Obligations.IllegalWordFailsAndRecordsTheWord : Prop :=
  (∀ (w : Word) (s : State), (∀ row ∈ rowMap, w &&& row.2.1 ≠ row.1) →
    runWord w s =
      .next { s with
        lastCode := .illegalCommand, sticky := true, errCause := .illegalCommand, errCmd := w
        completions := s.completions ++ [⟨.illegalCommand, 0⟩] }) ∧
  ((List.range 256).filter fun op => rowMap.all fun row => row.1.toNat / 2 ^ 24 != op).length = 237

/-- R69: an operand that does not fit in 8 bits is an assembler error in every form that takes a byte, and one that fits
gives the command; the selector names stand for their selectors, STR+i for i = 0..11 only; `.word` gives any 32-bit value
and no other; the short FRAME_BUILD means sub-opcode 0; and the two other pseudo-instructions expand as stated, RX_LOAD of
at most 16 bytes. -/
def Obligations.AssemblerRefusesWhatDoesNotFit : Prop :=
  (∀ (t : List Char) (v : Nat), Asm.number t = some v →
    Asm.byte t = if v ≤ 255 then some (BitVec.ofNat 8 v) else none) ∧
  (∀ (m : String) (command : Byte → Instr),
    (m, command) ∈ [("CRC_BYTE", Instr.crcByte), ("FRAME_READ", .frameRead), ("RX_PUSH", .rxPush), ("RX_READ", .rxRead),
      ("PL_READ", .plRead), ("RES_READ", .resRead), ("ERR_READ", .errRead)] →
    ∀ (t : List Char) (v : Nat), Asm.number t = some v →
      Asm.commands m.toList [t] = if v ≤ 255 then some [command (BitVec.ofNat 8 v)] else none) ∧
  (∀ (ops : List (List Char)) (t : List Char) (v : Nat), t ∈ ops → Asm.number t = some v → 255 < v →
    Asm.commands "FRAME_BUILD".toList ops = none ∧ Asm.commands "CRC_BLOCK".toList ops = none ∧
    Asm.commands "RX_LOAD".toList ops = none) ∧
  (Asm.commands "RES_READ".toList ["TAG".toList] = some [.resRead 0x00] ∧
    Asm.commands "RES_READ".toList ["WORD".toList] = some [.resRead 0x01] ∧
    Asm.commands "RES_READ".toList ["RAW".toList] = some [.resRead 0x02] ∧
    Asm.commands "RES_READ".toList ["SLEN".toList] = some [.resRead 0x03]) ∧
  (∀ (t : List Char) (i : Nat), Asm.number t = some i →
    Asm.commands "RES_READ".toList ["STR+".toList ++ t] =
      if i ≤ 11 then some [.resRead (BitVec.ofNat 8 (0x10 + i))] else none) ∧
  (Asm.commands "ERR_READ".toList ["CAUSE".toList] = some [.errRead 0x00] ∧
    Asm.commands "ERR_READ".toList ["CMD".toList] = some [.errRead 0x01] ∧
    Asm.commands "ERR_READ".toList ["CALC".toList] = some [.errRead 0x02] ∧
    Asm.commands "ERR_READ".toList ["RECV".toList] = some [.errRead 0x03]) ∧
  (∀ (t : List Char) (v : Nat), Asm.number t = some v →
    Asm.words ".word".toList [t] = if v < 2 ^ 32 then some [BitVec.ofNat 32 v] else none) ∧
  (∀ a b : List Char,
    Asm.commands "FRAME_BUILD".toList [a, b] = Asm.commands "FRAME_BUILD".toList [a, b, "0".toList]) ∧
  (∀ bs : List (List Char), 16 < bs.length → Asm.commands "RX_LOAD".toList bs = none) ∧
  (∀ (bs : List (List Char)) (xs : List Byte), bs.mapM Asm.byte = some xs → xs ≠ [] →
    (xs.length ≤ 16 → Asm.commands "RX_LOAD".toList bs = some (.rxClear :: xs.map .rxPush)) ∧
    Asm.commands "CRC_BLOCK".toList bs = some (.crcInit :: xs.map .crcByte ++ [.crcRead]))

/-! ### The step and the reset -/

/-- R54, R65, R66, R145: a step takes the next word the host presents and executes it, whatever it is: the command it
decodes to, or, for a word that decodes to ILLEGAL, the failure ILLEGAL_COMMAND that records the word. Nothing is added
around it. -/
def Obligations.StepRunsTheDecodedCommand : Prop :=
  ∀ (s : State) (w : Word) (rest : List Input), s.inbox = .command w :: rest →
    step s = runWord w { s with inbox := rest } ∧
    (∀ i : Instr, decode w = .ok i → step s = exec i { s with inbox := rest }) ∧
    (∀ e : Illegal, decode w = .error e → step s = .next (failed w .illegalCommand { s with inbox := rest }))

/-- R146: with nothing presented the block holds its state unchanged (that this is a step is log entry 2). -/
def Obligations.IdleStepHoldsTheState : Prop :=
  ∀ s : State, s.inbox = [] → step s = .next s

/-- R150: the value of every register after reset, whatever came before it; the parameters are kept; and a command in
progress when reset is asserted either completes entirely before it or is discarded with no completion. -/
def Obligations.ResetSetsEveryRegister : Prop :=
  (Block.reset =
    { crcAcc := 0xFFFF
      txFrame := #v[0, 0, 0, 0, 0, 0, 0, 0, 0, 0], txValid := false
      rxBuf := #v[0, 0, 0, 0, 0, 0, 0, 0, 0, 0, 0, 0, 0, 0, 0, 0], rxLen := 0
      plValid := false, plLen := 0
      resTag := .none, resWord := 0, resRaw := 0
      resStr := #v[0, 0, 0, 0, 0, 0, 0, 0, 0, 0, 0, 0], resSlen := 0
      lastCode := .ok, sticky := false, errCause := .ok, errCmd := 0, errCrcCalc := 0, errCrcRecv := 0 }) ∧
  State.reset.toBlock = Block.reset ∧ statusWord State.reset = 0x00000000 ∧
  (∀ (s : State) (rest : List Input), s.inbox = .reset :: rest →
    step s = .next { s with toBlock := Block.reset, inbox := rest }) ∧
  (∀ (s t : State) (w : Word) (rest : List Input), s.inbox = .resetDuring w :: rest → step s = .next t →
    t.toBlock = Block.reset ∧ t.params = s.params ∧ t.inbox = rest ∧
    (t.completions = s.completions ∨
      ∃ u, runWord w { s with inbox := rest, resetDraws := s.resetDraws + 1 } = .next u ∧
        t.completions = u.completions))

/-! ### The commands, each with its encoding, its effect and its failures -/

/-- R73. -/
def Obligations.NopCompletes : Prop :=
  EncodedAs 0x00 .z (fun _ => .nop) ∧ ∀ s : State, exec .nop s = .next (succeeded 0 s)

/-- R74. -/
def Obligations.CrcInitStartsTheStream : Prop :=
  EncodedAs 0x01 .z (fun _ => .crcInit) ∧
  ∀ s : State, exec .crcInit s = .next (succeeded 0 { s with crcAcc := 0xFFFF })

/-- R75. -/
def Obligations.CrcByteAdvancesTheStream : Prop :=
  EncodedAs 0x02 .c8 (fun w => .crcByte (operandC w)) ∧
  ∀ (c : Byte) (s : State), exec (.crcByte c) s = .next (succeeded 0 { s with crcAcc := crcByte s.crcAcc c })

/-- R76. -/
def Obligations.CrcReadAnswersTheComplement : Prop :=
  EncodedAs 0x03 .z (fun _ => .crcRead) ∧
  ∀ s : State, exec .crcRead s = .next (succeeded ((s.crcAcc ^^^ 0xFFFF).setWidth 32) s)

/-- R83. Every word with OP 0x10 is legal, so the ILLEGAL clause of its encoding has no word. -/
def Obligations.FrameBuildWritesTheFrame : Prop :=
  EncodedAs 0x10 .abc (fun w => .frameBuild (w.extractLsb' 16 8) (w.extractLsb' 8 8) (operandC w)) ∧
  ∀ (a b c : Byte) (s : State),
    (s.params.addrMax.toNat < a.toNat →
      exec (.frameBuild a b c) s =
        .next (failed (0x10000000 ||| a.setWidth 32 <<< 16 ||| b.setWidth 32 <<< 8 ||| c.setWidth 32) .argRange s)) ∧
    (a.toNat ≤ s.params.addrMax.toNat → ∀ k : Half, k = crc16 [a, b, c, 0, 0, 0, 0, 0] →
      exec (.frameBuild a b c) s =
        .next (succeeded (k.setWidth 32)
          { s with
            txFrame := #v[a, b, c, 0, 0, 0, 0, 0, k.extractLsb' 0 8, k.extractLsb' 8 8]
            txValid := true }))

/-- R84. -/
def Obligations.FrameReadAnswersTheByte : Prop :=
  EncodedAs 0x11 .c8 (fun w => .frameRead (operandC w)) ∧
  ∀ (c : Byte) (s : State),
    (s.txValid = false → exec (.frameRead c) s = .next (failed (wordWithC 0x11000000 c) .noData s)) ∧
    (s.txValid = true → 9 < c.toNat →
      exec (.frameRead c) s = .next (failed (wordWithC 0x11000000 c) .argRange s)) ∧
    (s.txValid = true → ∀ h : c.toNat < 10,
      exec (.frameRead c) s = .next (succeeded (s.txFrame[c.toNat].setWidth 32) s))

/-- R87. -/
def Obligations.RxClearEmptiesTheResponse : Prop :=
  EncodedAs 0x20 .z (fun _ => .rxClear) ∧
  ∀ s : State, exec .rxClear s = .next (succeeded 0 { s with rxLen := 0, plValid := false, plLen := 0 })

/-- R88. -/
def Obligations.RxPushAppendsTheByte : Prop :=
  EncodedAs 0x21 .c8 (fun w => .rxPush (operandC w)) ∧
  ∀ (c : Byte) (s : State),
    (s.rxLen.val = 16 → exec (.rxPush c) s = .next (failed (wordWithC 0x21000000 c) .rxOverflow s)) ∧
    (∀ (h : s.rxLen.val < 16) (n : Fin 17), n.val = s.rxLen.val + 1 →
      exec (.rxPush c) s =
        .next (succeeded (BitVec.ofNat 32 n.val)
          { s with rxBuf := s.rxBuf.set s.rxLen.val c h, rxLen := n, plValid := false, plLen := 0 }))

/-- R89: the response is RX_BUF[0..RX_LEN), its last two bytes the trailer `{second, first}`. -/
def Obligations.RxVerifyChecksTheTrailer : Prop :=
  EncodedAs 0x22 .z (fun _ => .rxVerify) ∧
  ∀ s : State,
    (s.rxLen.val < 2 → exec .rxVerify s = .next (failed 0x22000000 .framingShort (payloadInvalid s))) ∧
    (∀ (p : List Byte) (first second : Byte), s.rxBuf.toList.take s.rxLen.val = p ++ [first, second] →
      (crc16 p ≠ second ++ first →
        exec .rxVerify s =
          .next (failed 0x22000000 .framingMismatch
            { payloadInvalid s with errCrcCalc := crc16 p, errCrcRecv := second ++ first })) ∧
      (crc16 p = second ++ first → ∀ n : Fin 15, n.val + 2 = s.rxLen.val →
        exec .rxVerify s = .next (succeeded (BitVec.ofNat 32 n.val) { s with plValid := true, plLen := n })))

/-- R90. -/
def Obligations.RxReadAnswersTheByte : Prop :=
  EncodedAs 0x23 .c8 (fun w => .rxRead (operandC w)) ∧
  ∀ (c : Byte) (s : State),
    (s.rxLen.val ≤ c.toNat → exec (.rxRead c) s = .next (failed (wordWithC 0x23000000 c) .argRange s)) ∧
    (∀ h : c.toNat < 16, c.toNat < s.rxLen.val →
      exec (.rxRead c) s = .next (succeeded (s.rxBuf[c.toNat].setWidth 32) s))

/-- R91. -/
def Obligations.PlReadAnswersThePayloadByte : Prop :=
  EncodedAs 0x24 .c8 (fun w => .plRead (operandC w)) ∧
  ∀ (c : Byte) (s : State),
    (s.plValid = false → exec (.plRead c) s = .next (failed (wordWithC 0x24000000 c) .noData s)) ∧
    (s.plValid = true → s.plLen.val ≤ c.toNat →
      exec (.plRead c) s = .next (failed (wordWithC 0x24000000 c) .argRange s)) ∧
    (s.plValid = true → ∀ h : c.toNat < 16, c.toNat < s.plLen.val →
      exec (.plRead c) s = .next (succeeded (s.rxBuf[c.toNat].setWidth 32) s))

/-- R103: payload bytes 2..5, big-endian, as a two's-complement integer. -/
def Obligations.DecInt32DecodesTheInteger : Prop :=
  EncodedAs 0x30 .z (fun _ => .decInt32) ∧
  ∀ s : State,
    (s.plValid = false → exec .decInt32 s = .next (failed 0x30000000 .noData (resultCleared s))) ∧
    (s.plValid = true → s.plLen.val < 6 →
      exec .decInt32 s = .next (failed 0x30000000 .payloadShort (resultCleared s))) ∧
    (s.plValid = true → 6 < s.plLen.val → s.params.strictNumericLength = true →
      exec .decInt32 s = .next (failed 0x30000000 .payloadLong (resultCleared s))) ∧
    (s.plValid = true → 6 ≤ s.plLen.val → (s.params.strictNumericLength = true → s.plLen.val = 6) →
      ∀ w : Word, w = s.rxBuf[2] ++ s.rxBuf[3] ++ s.rxBuf[4] ++ s.rxBuf[5] →
      ∃ t, exec .decInt32 s = .next t ∧ decodedValue t = some (.int w.toInt) ∧
        t = succeeded w { s with resTag := .int32, resWord := w, resRaw := w, resStr := Vector.replicate 12 0, resSlen := 0 })

/-- R104: the binary32 bit pattern of payload bytes 2..5, kept exactly. -/
def Obligations.DecFloat32KeepsTheBitPattern : Prop :=
  EncodedAs 0x31 .z (fun _ => .decFloat32) ∧
  ∀ s : State,
    (s.plValid = false → exec .decFloat32 s = .next (failed 0x31000000 .noData (resultCleared s))) ∧
    (s.plValid = true → s.plLen.val < 6 →
      exec .decFloat32 s = .next (failed 0x31000000 .payloadShort (resultCleared s))) ∧
    (s.plValid = true → 6 < s.plLen.val → s.params.strictNumericLength = true →
      exec .decFloat32 s = .next (failed 0x31000000 .payloadLong (resultCleared s))) ∧
    (s.plValid = true → 6 ≤ s.plLen.val → (s.params.strictNumericLength = true → s.plLen.val = 6) →
      ∀ w : Word, w = s.rxBuf[2] ++ s.rxBuf[3] ++ s.rxBuf[4] ++ s.rxBuf[5] →
      ∃ t, exec .decFloat32 s = .next t ∧ decodedValue t = some (.float (binary32 w)) ∧
        t = succeeded w { s with resTag := .float32, resWord := w, resRaw := w, resStr := Vector.replicate 12 0, resSlen := 0 })

/-- R106: payload bytes 2.. copied as they are, then 0x00 fill. -/
def Obligations.DecStringCopiesTheBytes : Prop :=
  EncodedAs 0x32 .z (fun _ => .decString) ∧
  ∀ s : State,
    (s.plValid = false → exec .decString s = .next (failed 0x32000000 .noData (resultCleared s))) ∧
    (s.plValid = true → s.plLen.val < 2 →
      exec .decString s = .next (failed 0x32000000 .payloadShort (resultCleared s))) ∧
    (s.plValid = true → ∀ n : Fin 13, n.val + 2 = s.plLen.val →
      ∃ t : State, exec .decString s = .next t ∧
        (∀ i : Fin 12, t.resStr[i] = if i.val < n.val then s.rxBuf[2 + i.val] else 0x00) ∧
        decodedValue t = some (.string ((s.rxBuf.toList.take s.plLen.val).drop 2)) ∧
        t = succeeded (BitVec.ofNat 32 n.val)
          { s with resTag := .string, resWord := 0, resRaw := 0, resStr := t.resStr, resSlen := n })

/-- R107, under parameters that meet R14's constraint (the spec asks no more of any parameters). -/
def Obligations.DecDateDecodesTheDate : Prop :=
  EncodedAs 0x33 .z (fun _ => .decDate) ∧
  ∀ s : State,
    (s.plValid = false → exec .decDate s = .next (failed 0x33000000 .noData (resultCleared s))) ∧
    (s.plValid = true → s.plLen.val < 6 →
      exec .decDate s = .next (failed 0x33000000 .payloadShort (resultCleared s))) ∧
    (s.plValid = true → 6 < s.plLen.val → s.params.strictNumericLength = true →
      exec .decDate s = .next (failed 0x33000000 .payloadLong (resultCleared s))) ∧
    (s.params.legal = true → s.plValid = true → 6 ≤ s.plLen.val →
      (s.params.strictNumericLength = true → s.plLen.val = 6) →
      ∀ (w : Word) (d : Date), w = s.rxBuf[2] ++ s.rxBuf[3] ++ s.rxBuf[4] ++ s.rxBuf[5] →
      d = civilFromDays (((w.toNat : Int) + s.params.epochOffsetS + s.params.tzOffsetS) / 86400) →
      ∀ r : Word, r = BitVec.ofInt 16 d.year ++ BitVec.ofInt 8 d.month ++ BitVec.ofInt 8 d.day →
      exec .decDate s =
        .next (succeeded r
          { s with resTag := .date, resWord := r, resRaw := w, resStr := Vector.replicate 12 0, resSlen := 0 }))

/-- U10 of 93_implementation_defined.md, the model's choice of log entry 5: outside R14's constraint a decode that would
compute a date is refused by name, and no other command and no other state is refused anything. The constraint is the
model's reading of R14 (log entry 15): it is met exactly when every timestamp gives a year in 1..9999, and R14's
sufficient bound lies inside it. -/
def Obligations.DateRefusedOnlyOutsideTheConstraint : Prop :=
  (∀ s : State, s.params.legal = false → s.plValid = true → 6 ≤ s.plLen.val →
    (s.params.strictNumericLength = true → s.plLen.val = 6) →
    exec .decDate s = .refused .parametersOutsideConstraint) ∧
  (∀ (i : Instr) (s : State) (r : Refusal), exec i s = .refused r →
    i = .decDate ∧ s.params.legal = false ∧ r = .parametersOutsideConstraint) ∧
  (∀ p : Params, |p.tzOffsetS| + |p.epochOffsetS| ≤ 2 ^ 35 → p.legal = true) ∧
  (∀ p : Params, p.legal = true ↔ ∀ w : Word, 1 ≤ (dateOfTimestamp p w).year ∧ (dateOfTimestamp p w).year ≤ 9999)

/-- R109. -/
def Obligations.ResReadAnswersTheSelectedField : Prop :=
  EncodedAs 0x34 .c8 (fun w => .resRead (operandC w)) ∧
  ∀ s : State,
    exec (.resRead 0x00) s = .next (succeeded ((tagBits s.resTag).setWidth 32) s) ∧
    (∀ c : Byte, (0x03 < c.toNat ∧ c.toNat < 0x10) ∨ 0x1B < c.toNat →
      exec (.resRead c) s = .next (failed (wordWithC 0x34000000 c) .argRange s)) ∧
    (∀ c : Byte, (0x01 ≤ c.toNat ∧ c.toNat ≤ 0x03) ∨ (0x10 ≤ c.toNat ∧ c.toNat ≤ 0x1B) → s.resTag = .none →
      exec (.resRead c) s = .next (failed (wordWithC 0x34000000 c) .noData s)) ∧
    (s.resTag ≠ .none →
      exec (.resRead 0x01) s = .next (succeeded s.resWord s) ∧
      exec (.resRead 0x02) s = .next (succeeded s.resRaw s) ∧
      exec (.resRead 0x03) s = .next (succeeded (BitVec.ofNat 32 s.resSlen.val) s) ∧
      ∀ (c : Byte) (i : Fin 12), c.toNat = 0x10 + i.val →
        (s.resSlen.val ≤ i.val → exec (.resRead c) s = .next (failed (wordWithC 0x34000000 c) .argRange s)) ∧
        (i.val < s.resSlen.val → exec (.resRead c) s = .next (succeeded (s.resStr[i].setWidth 32) s)))

/-- R35, R120: the status word field by field, and a STATUS_READ that writes no register. -/
def Obligations.StatusReadAnswersTheStatusWord : Prop :=
  EncodedAs 0x40 .z (fun _ => .statusRead) ∧
  ∀ s : State, ∃ v : Word, exec .statusRead s = .next (answered .ok v s) ∧
    v.extractLsb' 0 4 = codeBits s.lastCode ∧ v.getLsbD 4 = s.sticky ∧ v.getLsbD 5 = s.txValid ∧
    v.getLsbD 6 = s.plValid ∧ v.extractLsb' 7 1 = 0 ∧ v.extractLsb' 8 3 = tagBits s.resTag ∧
    v.extractLsb' 11 5 = 0 ∧ (v.extractLsb' 16 5).toNat = s.rxLen.val ∧ v.extractLsb' 21 3 = 0 ∧
    (v.extractLsb' 24 4).toNat = s.plLen.val ∧ v.extractLsb' 28 4 = 0

/-- R121. -/
def Obligations.ErrReadAnswersTheDiagnostic : Prop :=
  EncodedAs 0x41 .c8 (fun w => .errRead (operandC w)) ∧
  ∀ s : State,
    exec (.errRead 0x00) s = .next (answered .ok ((codeBits s.errCause).setWidth 32) s) ∧
    exec (.errRead 0x01) s = .next (answered .ok s.errCmd s) ∧
    exec (.errRead 0x02) s = .next (answered .ok (s.errCrcCalc.setWidth 32) s) ∧
    exec (.errRead 0x03) s = .next (answered .ok (s.errCrcRecv.setWidth 32) s) ∧
    ∀ c : Byte, 0x03 < c.toNat → exec (.errRead c) s = .next (answered .argRange 0 s)

/-- R122. -/
def Obligations.ErrClearClearsTheDiagnostics : Prop :=
  EncodedAs 0x42 .z (fun _ => .errClear) ∧
  ∀ s : State,
    exec .errClear s =
      .next (succeeded 0
        { s with sticky := false, errCause := .ok, errCmd := 0, errCrcCalc := 0, errCrcRecv := 0 })

/-! ### The CRC -/

/-- R70, R71: the register's eight updates for a byte, bit 0 first, the fold over the bytes, and the two vectors of the
source. -/
def Obligations.Crc16FollowsTheAlgorithm : Prop :=
  (∀ (acc : Half) (x : Byte),
    crcByte acc x =
      (List.range 8).foldl (fun (a : Half) i => if (a.getLsbD 0 ^^ x.getLsbD i) = true then (a >>> 1) ^^^ 0x8408 else a >>> 1) acc) ∧
  (∀ s : List Byte, crc16 s = (s.foldl crcByte 0xFFFF) ^^^ 0xFFFF) ∧
  crc16 [] = 0x0000 ∧ crc16 [0x00] = 0xF078

/-- R79: the CRC of the block is CRC-16/X-25 computed by its unreflected parameters, and has its check value. -/
def Obligations.Crc16EqualsUnreflectedX25 : Prop :=
  (∀ s : List Byte, crc16 s = x25 s) ∧ crc16 [0x31, 0x32, 0x33, 0x34, 0x35, 0x36, 0x37, 0x38, 0x39] = 0x906E

/-- R78: the residue of a sequence followed by its own trailer, and the two checks of a response agree. -/
def Obligations.ResidueCheckEqualsTrailerCheck : Prop :=
  (∀ s : List Byte, crc16 (s ++ trailerOf (crc16 s)) = 0x0F47) ∧
  (∀ s : List Byte, 2 ≤ s.length → (crc16 s = 0x0F47 ↔ ∃ p, stripAndVerify s = .payload p))

/-- R72, R77, R155: whatever other commands the host presents between them, the bytes fed since the last CRC_INIT are
the bytes whose CRC16 a CRC_READ answers. -/
def Obligations.StreamAgreesWithCrc16 : Prop :=
  ∀ (cmds : List Instr) (s : State), s.params.legal = true → (∀ i ∈ cmds, i ≠ .crcInit) →
    ∃ t u, runCommands (.crcInit :: cmds) s = .next t ∧ exec .crcRead t = .next u ∧
      u.completions = t.completions ++ [⟨.ok, (crc16 (cmds.filterMap fedByte)).setWidth 32⟩]

/-! ### Frames and responses -/

/-- R80, R81, R93: for every address up to ADDR_MAX and every opcode and sub-opcode FRAME_BUILD completes, bytes 3..7
are 0x00, bytes 8 and 9 are the little-endian CRC of bytes 0..7, and the frame is itself a well-formed checked buffer. -/
def Obligations.FrameIsACheckedBuffer : Prop :=
  ∀ (a b c : Byte) (s : State), a.toNat ≤ s.params.addrMax.toNat →
    ∃ t, exec (.frameBuild a b c) s = .next t ∧ t.lastCode = .ok ∧ t.txValid = true ∧
      t.txFrame.toList.take 8 = [a, b, c, 0, 0, 0, 0, 0] ∧
      t.txFrame.toList.drop 8 = trailerOf (crc16 (t.txFrame.toList.take 8)) ∧
      stripAndVerify t.txFrame.toList = .payload (t.txFrame.toList.take 8)

/-- R86, and 90_conflicts.md C3 for every length: stripping what was appended gives it back, every other trailer is a
mismatch that carries both CRCs, and fewer than two bytes are short. -/
def Obligations.StripUndoesAppend : Prop :=
  (∀ p : List Byte, stripAndVerify (p ++ trailerOf (crc16 p)) = .payload p) ∧
  (∀ (p : List Byte) (first second : Byte), [first, second] ≠ trailerOf (crc16 p) →
    stripAndVerify (p ++ [first, second]) = .mismatch (crc16 p) (second ++ first)) ∧
  (∀ l : List Byte, stripAndVerify l = .short ↔ l.length < 2)

/-- R92: the round trip through the commands, from any state. -/
def Obligations.ResponseRoundTripByCommands : Prop :=
  ∀ (p : List Byte) (s : State), p.length ≤ 14 →
    (∃ t, runCommands (rxLoad (p ++ trailerOf (crc16 p)) ++ [.rxVerify]) s = .next t ∧
      t.lastCode = .ok ∧ t.plValid = true ∧ t.plLen.val = p.length ∧ t.rxBuf.toList.take p.length = p ∧
      t.completions.getLast? = some ⟨.ok, BitVec.ofNat 32 p.length⟩) ∧
    (∀ first second : Byte, [first, second] ≠ trailerOf (crc16 p) →
      ∃ t, runCommands (rxLoad (p ++ [first, second]) ++ [.rxVerify]) s = .next t ∧
        t.lastCode = .framingMismatch ∧ t.plValid = false ∧
        t.completions.getLast? = some ⟨.framingMismatch, 0⟩)

/-! ### Every command -/

/-- R19, R130, R132: under legal parameters every command gives a next state and exactly one completion pair, with
response 0 when it fails, and leaves what the host has yet to present. -/
def Obligations.EveryCommandAnswersOnce : Prop :=
  ∀ (i : Instr) (s : State), s.params.legal = true →
    ∃ t c, exec i s = .next t ∧ t.completions = s.completions ++ [c] ∧ (c.code ≠ .ok → c.resp = 0) ∧
      t.inbox = s.inbox ∧ t.resetDraws = s.resetDraws

/-- R21's column "written by": a register that a command changes lists that command. -/
def Obligations.OnlyTheListedCommandsWrite : Prop :=
  ∀ (i : Instr) (s t : State), exec i s = .next t →
    (t.crcAcc ≠ s.crcAcc → i = .crcInit ∨ ∃ c, i = .crcByte c) ∧
    (t.txFrame ≠ s.txFrame ∨ t.txValid ≠ s.txValid → ∃ a b c, i = .frameBuild a b c) ∧
    (t.rxBuf ≠ s.rxBuf → ∃ c, i = .rxPush c) ∧
    (t.rxLen ≠ s.rxLen → i = .rxClear ∨ ∃ c, i = .rxPush c) ∧
    (t.plValid ≠ s.plValid ∨ t.plLen ≠ s.plLen → i = .rxClear ∨ i = .rxVerify ∨ ∃ c, i = .rxPush c) ∧
    (¬ SameResult s t → i ∈ [.decInt32, .decFloat32, .decString, .decDate]) ∧
    (t.lastCode ≠ s.lastCode → i ≠ .statusRead ∧ ∀ c, i ≠ .errRead c) ∧
    (t.sticky ≠ s.sticky ∨ t.errCause ≠ s.errCause ∨ t.errCmd ≠ s.errCmd →
      i = .errClear ∨ (t.lastCode ≠ .ok ∧ i ≠ .statusRead ∧ ∀ c, i ≠ .errRead c)) ∧
    (t.errCrcCalc ≠ s.errCrcCalc ∨ t.errCrcRecv ≠ s.errCrcRecv → i = .rxVerify ∨ i = .errClear)

/-- R133, R134: what a failure and a success write. -/
def Obligations.CompletionDecidesTheStatusRegisters : Prop :=
  ∀ (i : Instr) (s t : State) (c : Completion), exec i s = .next t → t.completions = s.completions ++ [c] →
    (statusNeutral i = true → t = { s with completions := s.completions ++ [c] }) ∧
    (statusNeutral i = false → c.code = .ok →
      t.lastCode = .ok ∧
      (i ≠ .errClear → t.sticky = s.sticky ∧ t.errCause = s.errCause ∧ t.errCmd = s.errCmd ∧
        t.errCrcCalc = s.errCrcCalc ∧ t.errCrcRecv = s.errCrcRecv)) ∧
    (statusNeutral i = false → c.code ≠ .ok →
      t.lastCode = c.code ∧ t.sticky = true ∧ t.errCause = c.code ∧ t.errCmd = encode i ∧
      t.crcAcc = s.crcAcc ∧ t.txFrame = s.txFrame ∧ t.txValid = s.txValid ∧ t.rxBuf = s.rxBuf ∧ t.rxLen = s.rxLen ∧
      (i ≠ .rxVerify → t.plValid = s.plValid ∧ t.plLen = s.plLen) ∧
      (i = .rxVerify → t.plValid = false ∧ t.plLen = 0) ∧
      (c.code ≠ .framingMismatch → t.errCrcCalc = s.errCrcCalc ∧ t.errCrcRecv = s.errCrcRecv) ∧
      (isDecode i = false → SameResult s t) ∧
      (isDecode i = true → SameResult State.reset t))

/-- R131: the numbers of the codes, and the commands that raise each. -/
def Obligations.EachCodeIsRaisedByItsCommands : Prop :=
  ([Code.ok, .framingMismatch, .framingShort, .rxOverflow, .noData, .payloadShort, .argRange, .illegalCommand,
    .payloadLong].map fun k => (codeBits k).toNat) = [0, 1, 2, 3, 4, 5, 6, 7, 8] ∧
  ∀ (i : Instr) (s t : State) (c : Completion), exec i s = .next t → t.completions = s.completions ++ [c] →
    (c.code = .framingMismatch ∨ c.code = .framingShort → i = .rxVerify) ∧
    (c.code = .rxOverflow → ∃ x, i = .rxPush x) ∧
    (c.code = .noData → isDecode i = true ∨ ∃ x, i = .frameRead x ∨ i = .plRead x ∨ i = .resRead x) ∧
    (c.code = .payloadShort → isDecode i = true) ∧
    (c.code = .argRange → (∃ a b x, i = .frameBuild a b x) ∨
      ∃ x, i = .frameRead x ∨ i = .rxRead x ∨ i = .plRead x ∨ i = .resRead x ∨ i = .errRead x) ∧
    (c.code = .payloadLong → i = .decInt32 ∨ i = .decFloat32 ∨ i = .decDate) ∧
    c.code ≠ .illegalCommand

/-- R52 as R75 and R88 leave it (log entry 10): repeated at once, every command but RX_PUSH and CRC_BYTE changes no
register and answers the same. -/
def Obligations.RepeatedCommandChangesNothing : Prop :=
  ∀ (i : Instr) (s t : State), (∀ c, i ≠ .rxPush c) → (∀ c, i ≠ .crcByte c) → exec i s = .next t →
    ∃ c, t.completions = s.completions ++ [c] ∧ exec i t = .next { t with completions := t.completions ++ [c] }

/-! ### Invariants that every step keeps -/

/-- R27, R28. -/
def Obligations.StepKeepsThePayloadChecked : Prop :=
  ∀ s t : State, PayloadInv s → step s = .next t → PayloadInv t

/-- R30. -/
def Obligations.StepKeepsTheResultTyped : Prop :=
  ∀ s t : State, ResultInv s → step s = .next t → ResultInv t

/-- R25, R80. -/
def Obligations.StepKeepsTheFrameShaped : Prop :=
  ∀ s t : State, FrameInv s → step s = .next t → FrameInv t

/-- R31 to R34. -/
def Obligations.StepKeepsTheErrorRecord : Prop :=
  ∀ s t : State, ErrorInv s → step s = .next t → ErrorInv t

/-- R20: no command and no reset changes a parameter. -/
def Obligations.StepKeepsTheParameters : Prop :=
  ∀ s t : State, step s = .next t → t.params = s.params

/-- R28, R30, R150: the invariants hold after reset. -/
def Obligations.ResetMeetsTheInvariants : Prop :=
  PayloadInv State.reset ∧ ResultInv State.reset ∧ FrameInv State.reset ∧ ErrorInv State.reset ∧
  State.reset.params.legal = true

/-! ### Rules about the whole machine -/

/-- R154: a payload becomes valid only by an RX_VERIFY that completes with OK; from a state that meets R28 it stays valid
until an RX_PUSH, an RX_CLEAR or a reset; each of these (a push that is not an overflow) ends it; and outside the window a
decode and PL_READ fail with NO_DATA. -/
def Obligations.PayloadWindow : Prop :=
  (∀ s t : State, step s = .next t →
    (s.plValid = false → t.plValid = true →
      ∃ rest, s.inbox = .command 0x22000000 :: rest ∧ t.lastCode = .ok) ∧
    (PayloadInv s → s.plValid = true → t.plValid = false →
      ∃ x rest, s.inbox = x :: rest ∧
        (x = .reset ∨ (∃ w, x = .resetDuring w) ∨ x = .command 0x20000000 ∨
          ∃ c : Byte, x = .command (wordWithC 0x21000000 c)))) ∧
  (∀ (s : State) (rest : List Input),
    s.inbox = .command 0x20000000 :: rest ∨ s.inbox = .reset :: rest ∨
      (s.rxLen.val < 16 ∧ ∃ c : Byte, s.inbox = .command (wordWithC 0x21000000 c) :: rest) →
    ∃ t, step s = .next t ∧ t.plValid = false ∧ t.plLen = 0) ∧
  (∀ (s t : State) (w : Word) (rest : List Input), s.inbox = .resetDuring w :: rest → step s = .next t →
    t.plValid = false ∧ t.plLen = 0) ∧
  (∀ (i : Instr) (s : State), isDecode i = true ∨ (∃ c, i = .plRead c) → s.plValid = false →
    ∃ t, exec i s = .next t ∧ t.lastCode = .noData)

/-- R138: only ERR_CLEAR and reset clear STICKY. -/
def Obligations.OnlyErrClearAndResetClearSticky : Prop :=
  ∀ s t : State, step s = .next t → s.sticky = true → t.sticky = false →
    ∃ x rest, s.inbox = x :: rest ∧ (x = .reset ∨ (∃ w, x = .resetDuring w) ∨ x = .command 0x42000000)

/-- R159: only a decode command and reset change a result. -/
def Obligations.ResultLastsUntilTheNextDecode : Prop :=
  ∀ s t : State, step s = .next t → ¬ SameResult s t →
    ∃ x rest, s.inbox = x :: rest ∧
      (x = .reset ∨ (∃ w, x = .resetDuring w) ∨
        ∃ w : Word, x = .command w ∧ w ∈ [0x30000000#32, 0x31000000, 0x32000000, 0x33000000])

/-- R26, R38: the bytes of RX_BUF at RX_LEN and above cannot be observed. Two states that differ in nothing else give
the same completions, and after any command they still differ in nothing else. -/
def Obligations.StaleBytesAreUnobservable : Prop :=
  ∀ (i : Instr) (s t s' : State), PayloadInv s → AgreeButStaleBytes s t → exec i s = .next s' →
    ∃ t', exec i t = .next t' ∧ t'.completions = s'.completions ∧ AgreeButStaleBytes s' t'

/-- R111: a numeric result depends on payload bytes 2..5 and the parameters, a string on payload bytes 2.., and on no
other state (given that there is a payload and how long it is). -/
def Obligations.DecodeDependsOnItsBytesOnly : Prop :=
  ∀ (i : Instr) (s t s' : State), t.plValid = s.plValid → t.plLen = s.plLen → t.params = s.params →
    exec i s = .next s' →
    (i ∈ [.decInt32, .decFloat32, .decDate] → (∀ j : Fin 16, 2 ≤ j.val → j.val ≤ 5 → t.rxBuf[j] = s.rxBuf[j]) →
      ∃ t', exec i t = .next t' ∧ SameResult s' t' ∧ t'.completions.getLast? = s'.completions.getLast?) ∧
    (i = .decString → (∀ j : Fin 16, 2 ≤ j.val → j.val < s.plLen.val → t.rxBuf[j] = s.rxBuf[j]) →
      ∃ t', exec i t = .next t' ∧ SameResult s' t' ∧ t'.completions.getLast? = s'.completions.getLast?)

/-- R145, R161: presented with any words, the block answers each once, in order, and none stops it. -/
def Obligations.EveryPresentedWordIsAnswered : Prop :=
  ∀ (ws : List Word) (s : State), s.params.legal = true →
    ∃ (t : State) (answers : List Completion),
      Sys2Proof.core.run ws.length { s with inbox := ws.map .command } = .next t ∧
      t.inbox = [] ∧ t.completions = s.completions ++ answers ∧ answers.length = ws.length

/-! ### Values -/

/-- R108: day 0 is 1970-01-01, and each day's date is the calendar day after the date of the day before it. -/
def Obligations.CivilDatesFollowTheCalendar : Prop :=
  civilFromDays 0 = { year := 1970, month := 1, day := 1 } ∧
  ∀ z : Int, civilFromDays (z + 1) = nextDay (civilFromDays z)

/-- R14, R107, R110: under legal parameters the packed date loses nothing, and with no offset every year lies in
1970..2106. -/
def Obligations.PackedDateLosesNothing : Prop :=
  (∀ (p : Params) (w : Word), p.legal = true →
    unpackDate (packDate (dateOfTimestamp p w)) = dateOfTimestamp p w) ∧
  (∀ (p : Params) (w : Word), p.dateOffset = 0 →
    1970 ≤ (dateOfTimestamp p w).year ∧ (dateOfTimestamp p w).year ≤ 2106)

/-- R105: the four cases of the value of a binary32 word. The second clause is about the model's representation of the
value (log entry 13: a NaN with its sign and fraction bits, which R104 keeps, and a zero with its sign), in which no two
words are alike; it does not follow from R105 alone, where all NaNs of a kind have one value. -/
def Obligations.Binary32ReadsEveryWord : Prop :=
  (∀ (w : Word) (e f : Nat), e = w.toNat / 2 ^ 23 % 2 ^ 8 → f = w.toNat % 2 ^ 23 →
    (e = 255 → f = 0 → binary32 w = .infinity (w.getLsbD 31)) ∧
    (e = 255 → f ≠ 0 → binary32 w = .nan (w.getLsbD 31) (w.getLsbD 22) (BitVec.ofNat 23 f)) ∧
    (e = 0 → binary32 w = .finite (w.getLsbD 31) f (-149)) ∧
    (e ≠ 0 → e ≠ 255 → binary32 w = .finite (w.getLsbD 31) (2 ^ 23 + f) ((e : Int) - 150))) ∧
  (∀ v w : Word, binary32 v = binary32 w → v = w)
end

