-- ==== Sys2Proof/Laws/Decode.lean ====
section
/-! SUPPORT. The fields of a packed word, and a word as the pack of its fields (spec/30_encoding.md R61). -/

namespace Sys2Proof

@[simp] theorem opField_packWord (op a b c : Byte) : opField (packWord op a b c) = op := by
  ext i hi
  simp only [opField, packWord, BitVec.getElem_extractLsb', BitVec.getLsbD_append]
  interval_cases i <;> simp [BitVec.getLsbD_eq_getElem]

@[simp] theorem fieldA_packWord (op a b c : Byte) : fieldA (packWord op a b c) = a := by
  ext i hi
  simp only [fieldA, packWord, BitVec.getElem_extractLsb', BitVec.getLsbD_append]
  interval_cases i <;> simp [BitVec.getLsbD_eq_getElem]

@[simp] theorem fieldB_packWord (op a b c : Byte) : fieldB (packWord op a b c) = b := by
  ext i hi
  simp only [fieldB, packWord, BitVec.getElem_extractLsb', BitVec.getLsbD_append]
  interval_cases i <;> simp [BitVec.getLsbD_eq_getElem]

@[simp] theorem fieldC_packWord (op a b c : Byte) : fieldC (packWord op a b c) = c := by
  ext i hi
  simp only [fieldC, packWord, BitVec.getElem_extractLsb', BitVec.getLsbD_append]
  interval_cases i <;> simp [BitVec.getLsbD_eq_getElem]

/-- A word is its four fields. -/
theorem packWord_fields (w : Word) : packWord (opField w) (fieldA w) (fieldB w) (fieldC w) = w := by
  refine BitVec.eq_of_getLsbD_eq fun i hi => ?_
  simp only [opField, fieldA, fieldB, fieldC, packWord, BitVec.getLsbD_append, BitVec.getLsbD_extractLsb']
  interval_cases i <;> simp

end Sys2Proof
end

