-- ==== Sys2Proof/Laws/State.lean ====
section
/-! SUPPORT. One lemma per field and shared update: what it writes and what it leaves. A proof uses these and need not
unfold an update. -/

namespace Sys2Proof.Machine

section
variable (k : Code) (r : Word) (s : State)
@[simp] theorem respond_crcAcc : (respond k r s).crcAcc = s.crcAcc := rfl
@[simp] theorem respond_txFrame : (respond k r s).txFrame = s.txFrame := rfl
@[simp] theorem respond_txValid : (respond k r s).txValid = s.txValid := rfl
@[simp] theorem respond_rxBuf : (respond k r s).rxBuf = s.rxBuf := rfl
@[simp] theorem respond_rxLen : (respond k r s).rxLen = s.rxLen := rfl
@[simp] theorem respond_plValid : (respond k r s).plValid = s.plValid := rfl
@[simp] theorem respond_plLen : (respond k r s).plLen = s.plLen := rfl
@[simp] theorem respond_resTag : (respond k r s).resTag = s.resTag := rfl
@[simp] theorem respond_resWord : (respond k r s).resWord = s.resWord := rfl
@[simp] theorem respond_resRaw : (respond k r s).resRaw = s.resRaw := rfl
@[simp] theorem respond_resStr : (respond k r s).resStr = s.resStr := rfl
@[simp] theorem respond_resSlen : (respond k r s).resSlen = s.resSlen := rfl
@[simp] theorem respond_lastCode : (respond k r s).lastCode = s.lastCode := rfl
@[simp] theorem respond_sticky : (respond k r s).sticky = s.sticky := rfl
@[simp] theorem respond_errCause : (respond k r s).errCause = s.errCause := rfl
@[simp] theorem respond_errCmd : (respond k r s).errCmd = s.errCmd := rfl
@[simp] theorem respond_errCrcCalc : (respond k r s).errCrcCalc = s.errCrcCalc := rfl
@[simp] theorem respond_errCrcRecv : (respond k r s).errCrcRecv = s.errCrcRecv := rfl
@[simp] theorem respond_params : (respond k r s).params = s.params := rfl
@[simp] theorem respond_inbox : (respond k r s).inbox = s.inbox := rfl
@[simp] theorem respond_completions : (respond k r s).completions = s.completions ++ [⟨k, r⟩] := rfl
@[simp] theorem respond_resetDraws : (respond k r s).resetDraws = s.resetDraws := rfl
end

section
variable (r : Word) (s : State)
@[simp] theorem complete_crcAcc : (complete r s).crcAcc = s.crcAcc := rfl
@[simp] theorem complete_txFrame : (complete r s).txFrame = s.txFrame := rfl
@[simp] theorem complete_txValid : (complete r s).txValid = s.txValid := rfl
@[simp] theorem complete_rxBuf : (complete r s).rxBuf = s.rxBuf := rfl
@[simp] theorem complete_rxLen : (complete r s).rxLen = s.rxLen := rfl
@[simp] theorem complete_plValid : (complete r s).plValid = s.plValid := rfl
@[simp] theorem complete_plLen : (complete r s).plLen = s.plLen := rfl
@[simp] theorem complete_resTag : (complete r s).resTag = s.resTag := rfl
@[simp] theorem complete_resWord : (complete r s).resWord = s.resWord := rfl
@[simp] theorem complete_resRaw : (complete r s).resRaw = s.resRaw := rfl
@[simp] theorem complete_resStr : (complete r s).resStr = s.resStr := rfl
@[simp] theorem complete_resSlen : (complete r s).resSlen = s.resSlen := rfl
@[simp] theorem complete_lastCode : (complete r s).lastCode = .ok := rfl
@[simp] theorem complete_sticky : (complete r s).sticky = s.sticky := rfl
@[simp] theorem complete_errCause : (complete r s).errCause = s.errCause := rfl
@[simp] theorem complete_errCmd : (complete r s).errCmd = s.errCmd := rfl
@[simp] theorem complete_errCrcCalc : (complete r s).errCrcCalc = s.errCrcCalc := rfl
@[simp] theorem complete_errCrcRecv : (complete r s).errCrcRecv = s.errCrcRecv := rfl
@[simp] theorem complete_params : (complete r s).params = s.params := rfl
@[simp] theorem complete_inbox : (complete r s).inbox = s.inbox := rfl
@[simp] theorem complete_completions : (complete r s).completions = s.completions ++ [⟨.ok, r⟩] := rfl
@[simp] theorem complete_resetDraws : (complete r s).resetDraws = s.resetDraws := rfl
end

section
variable (w : Word) (k : Code) (s : State)
@[simp] theorem raise_crcAcc : (raise w k s).crcAcc = s.crcAcc := rfl
@[simp] theorem raise_txFrame : (raise w k s).txFrame = s.txFrame := rfl
@[simp] theorem raise_txValid : (raise w k s).txValid = s.txValid := rfl
@[simp] theorem raise_rxBuf : (raise w k s).rxBuf = s.rxBuf := rfl
@[simp] theorem raise_rxLen : (raise w k s).rxLen = s.rxLen := rfl
@[simp] theorem raise_plValid : (raise w k s).plValid = s.plValid := rfl
@[simp] theorem raise_plLen : (raise w k s).plLen = s.plLen := rfl
@[simp] theorem raise_resTag : (raise w k s).resTag = s.resTag := rfl
@[simp] theorem raise_resWord : (raise w k s).resWord = s.resWord := rfl
@[simp] theorem raise_resRaw : (raise w k s).resRaw = s.resRaw := rfl
@[simp] theorem raise_resStr : (raise w k s).resStr = s.resStr := rfl
@[simp] theorem raise_resSlen : (raise w k s).resSlen = s.resSlen := rfl
@[simp] theorem raise_lastCode : (raise w k s).lastCode = k := rfl
@[simp] theorem raise_sticky : (raise w k s).sticky = true := rfl
@[simp] theorem raise_errCause : (raise w k s).errCause = k := rfl
@[simp] theorem raise_errCmd : (raise w k s).errCmd = w := rfl
@[simp] theorem raise_errCrcCalc : (raise w k s).errCrcCalc = s.errCrcCalc := rfl
@[simp] theorem raise_errCrcRecv : (raise w k s).errCrcRecv = s.errCrcRecv := rfl
@[simp] theorem raise_params : (raise w k s).params = s.params := rfl
@[simp] theorem raise_inbox : (raise w k s).inbox = s.inbox := rfl
@[simp] theorem raise_completions : (raise w k s).completions = s.completions ++ [⟨k, 0⟩] := rfl
@[simp] theorem raise_resetDraws : (raise w k s).resetDraws = s.resetDraws := rfl
end

section
variable (s : State)
@[simp] theorem invalidatePayload_crcAcc : (invalidatePayload s).crcAcc = s.crcAcc := rfl
@[simp] theorem invalidatePayload_txFrame : (invalidatePayload s).txFrame = s.txFrame := rfl
@[simp] theorem invalidatePayload_txValid : (invalidatePayload s).txValid = s.txValid := rfl
@[simp] theorem invalidatePayload_rxBuf : (invalidatePayload s).rxBuf = s.rxBuf := rfl
@[simp] theorem invalidatePayload_rxLen : (invalidatePayload s).rxLen = s.rxLen := rfl
@[simp] theorem invalidatePayload_plValid : (invalidatePayload s).plValid = false := rfl
@[simp] theorem invalidatePayload_plLen : (invalidatePayload s).plLen = 0 := rfl
@[simp] theorem invalidatePayload_resTag : (invalidatePayload s).resTag = s.resTag := rfl
@[simp] theorem invalidatePayload_resWord : (invalidatePayload s).resWord = s.resWord := rfl
@[simp] theorem invalidatePayload_resRaw : (invalidatePayload s).resRaw = s.resRaw := rfl
@[simp] theorem invalidatePayload_resStr : (invalidatePayload s).resStr = s.resStr := rfl
@[simp] theorem invalidatePayload_resSlen : (invalidatePayload s).resSlen = s.resSlen := rfl
@[simp] theorem invalidatePayload_lastCode : (invalidatePayload s).lastCode = s.lastCode := rfl
@[simp] theorem invalidatePayload_sticky : (invalidatePayload s).sticky = s.sticky := rfl
@[simp] theorem invalidatePayload_errCause : (invalidatePayload s).errCause = s.errCause := rfl
@[simp] theorem invalidatePayload_errCmd : (invalidatePayload s).errCmd = s.errCmd := rfl
@[simp] theorem invalidatePayload_errCrcCalc : (invalidatePayload s).errCrcCalc = s.errCrcCalc := rfl
@[simp] theorem invalidatePayload_errCrcRecv : (invalidatePayload s).errCrcRecv = s.errCrcRecv := rfl
@[simp] theorem invalidatePayload_params : (invalidatePayload s).params = s.params := rfl
@[simp] theorem invalidatePayload_inbox : (invalidatePayload s).inbox = s.inbox := rfl
@[simp] theorem invalidatePayload_completions : (invalidatePayload s).completions = s.completions := rfl
@[simp] theorem invalidatePayload_resetDraws : (invalidatePayload s).resetDraws = s.resetDraws := rfl
end

section
variable (tag : ResTag) (w r : Word) (v : Vector Byte 12) (n : Fin 13) (s : State)
@[simp] theorem writeResult_crcAcc : (writeResult tag w r v n s).crcAcc = s.crcAcc := rfl
@[simp] theorem writeResult_txFrame : (writeResult tag w r v n s).txFrame = s.txFrame := rfl
@[simp] theorem writeResult_txValid : (writeResult tag w r v n s).txValid = s.txValid := rfl
@[simp] theorem writeResult_rxBuf : (writeResult tag w r v n s).rxBuf = s.rxBuf := rfl
@[simp] theorem writeResult_rxLen : (writeResult tag w r v n s).rxLen = s.rxLen := rfl
@[simp] theorem writeResult_plValid : (writeResult tag w r v n s).plValid = s.plValid := rfl
@[simp] theorem writeResult_plLen : (writeResult tag w r v n s).plLen = s.plLen := rfl
@[simp] theorem writeResult_resTag : (writeResult tag w r v n s).resTag = tag := rfl
@[simp] theorem writeResult_resWord : (writeResult tag w r v n s).resWord = w := rfl
@[simp] theorem writeResult_resRaw : (writeResult tag w r v n s).resRaw = r := rfl
@[simp] theorem writeResult_resStr : (writeResult tag w r v n s).resStr = v := rfl
@[simp] theorem writeResult_resSlen : (writeResult tag w r v n s).resSlen = n := rfl
@[simp] theorem writeResult_lastCode : (writeResult tag w r v n s).lastCode = s.lastCode := rfl
@[simp] theorem writeResult_sticky : (writeResult tag w r v n s).sticky = s.sticky := rfl
@[simp] theorem writeResult_errCause : (writeResult tag w r v n s).errCause = s.errCause := rfl
@[simp] theorem writeResult_errCmd : (writeResult tag w r v n s).errCmd = s.errCmd := rfl
@[simp] theorem writeResult_errCrcCalc : (writeResult tag w r v n s).errCrcCalc = s.errCrcCalc := rfl
@[simp] theorem writeResult_errCrcRecv : (writeResult tag w r v n s).errCrcRecv = s.errCrcRecv := rfl
@[simp] theorem writeResult_params : (writeResult tag w r v n s).params = s.params := rfl
@[simp] theorem writeResult_inbox : (writeResult tag w r v n s).inbox = s.inbox := rfl
@[simp] theorem writeResult_completions : (writeResult tag w r v n s).completions = s.completions := rfl
@[simp] theorem writeResult_resetDraws : (writeResult tag w r v n s).resetDraws = s.resetDraws := rfl
end

section
variable (s : State)
@[simp] theorem clearResult_crcAcc : (clearResult s).crcAcc = s.crcAcc := rfl
@[simp] theorem clearResult_txFrame : (clearResult s).txFrame = s.txFrame := rfl
@[simp] theorem clearResult_txValid : (clearResult s).txValid = s.txValid := rfl
@[simp] theorem clearResult_rxBuf : (clearResult s).rxBuf = s.rxBuf := rfl
@[simp] theorem clearResult_rxLen : (clearResult s).rxLen = s.rxLen := rfl
@[simp] theorem clearResult_plValid : (clearResult s).plValid = s.plValid := rfl
@[simp] theorem clearResult_plLen : (clearResult s).plLen = s.plLen := rfl
@[simp] theorem clearResult_resTag : (clearResult s).resTag = .none := rfl
@[simp] theorem clearResult_resWord : (clearResult s).resWord = 0 := rfl
@[simp] theorem clearResult_resRaw : (clearResult s).resRaw = 0 := rfl
@[simp] theorem clearResult_resStr : (clearResult s).resStr = emptyString := rfl
@[simp] theorem clearResult_resSlen : (clearResult s).resSlen = 0 := rfl
@[simp] theorem clearResult_lastCode : (clearResult s).lastCode = s.lastCode := rfl
@[simp] theorem clearResult_sticky : (clearResult s).sticky = s.sticky := rfl
@[simp] theorem clearResult_errCause : (clearResult s).errCause = s.errCause := rfl
@[simp] theorem clearResult_errCmd : (clearResult s).errCmd = s.errCmd := rfl
@[simp] theorem clearResult_errCrcCalc : (clearResult s).errCrcCalc = s.errCrcCalc := rfl
@[simp] theorem clearResult_errCrcRecv : (clearResult s).errCrcRecv = s.errCrcRecv := rfl
@[simp] theorem clearResult_params : (clearResult s).params = s.params := rfl
@[simp] theorem clearResult_inbox : (clearResult s).inbox = s.inbox := rfl
@[simp] theorem clearResult_completions : (clearResult s).completions = s.completions := rfl
@[simp] theorem clearResult_resetDraws : (clearResult s).resetDraws = s.resetDraws := rfl
end

section
variable (w : Word) (k : Code) (s : State)
@[simp] theorem failDecode_crcAcc : (failDecode w k s).crcAcc = s.crcAcc := rfl
@[simp] theorem failDecode_txFrame : (failDecode w k s).txFrame = s.txFrame := rfl
@[simp] theorem failDecode_txValid : (failDecode w k s).txValid = s.txValid := rfl
@[simp] theorem failDecode_rxBuf : (failDecode w k s).rxBuf = s.rxBuf := rfl
@[simp] theorem failDecode_rxLen : (failDecode w k s).rxLen = s.rxLen := rfl
@[simp] theorem failDecode_plValid : (failDecode w k s).plValid = s.plValid := rfl
@[simp] theorem failDecode_plLen : (failDecode w k s).plLen = s.plLen := rfl
@[simp] theorem failDecode_resTag : (failDecode w k s).resTag = .none := rfl
@[simp] theorem failDecode_resWord : (failDecode w k s).resWord = 0 := rfl
@[simp] theorem failDecode_resRaw : (failDecode w k s).resRaw = 0 := rfl
@[simp] theorem failDecode_resStr : (failDecode w k s).resStr = emptyString := rfl
@[simp] theorem failDecode_resSlen : (failDecode w k s).resSlen = 0 := rfl
@[simp] theorem failDecode_lastCode : (failDecode w k s).lastCode = k := rfl
@[simp] theorem failDecode_sticky : (failDecode w k s).sticky = true := rfl
@[simp] theorem failDecode_errCause : (failDecode w k s).errCause = k := rfl
@[simp] theorem failDecode_errCmd : (failDecode w k s).errCmd = w := rfl
@[simp] theorem failDecode_errCrcCalc : (failDecode w k s).errCrcCalc = s.errCrcCalc := rfl
@[simp] theorem failDecode_errCrcRecv : (failDecode w k s).errCrcRecv = s.errCrcRecv := rfl
@[simp] theorem failDecode_params : (failDecode w k s).params = s.params := rfl
@[simp] theorem failDecode_inbox : (failDecode w k s).inbox = s.inbox := rfl
@[simp] theorem failDecode_completions : (failDecode w k s).completions = s.completions ++ [⟨k, 0⟩] := rfl
@[simp] theorem failDecode_resetDraws : (failDecode w k s).resetDraws = s.resetDraws := rfl
end

section
variable (tag : ResTag) (w r : Word) (s : State)
@[simp] theorem finishNumeric_crcAcc : (finishNumeric tag w r s).crcAcc = s.crcAcc := rfl
@[simp] theorem finishNumeric_txFrame : (finishNumeric tag w r s).txFrame = s.txFrame := rfl
@[simp] theorem finishNumeric_txValid : (finishNumeric tag w r s).txValid = s.txValid := rfl
@[simp] theorem finishNumeric_rxBuf : (finishNumeric tag w r s).rxBuf = s.rxBuf := rfl
@[simp] theorem finishNumeric_rxLen : (finishNumeric tag w r s).rxLen = s.rxLen := rfl
@[simp] theorem finishNumeric_plValid : (finishNumeric tag w r s).plValid = s.plValid := rfl
@[simp] theorem finishNumeric_plLen : (finishNumeric tag w r s).plLen = s.plLen := rfl
@[simp] theorem finishNumeric_resTag : (finishNumeric tag w r s).resTag = tag := rfl
@[simp] theorem finishNumeric_resWord : (finishNumeric tag w r s).resWord = w := rfl
@[simp] theorem finishNumeric_resRaw : (finishNumeric tag w r s).resRaw = r := rfl
@[simp] theorem finishNumeric_resStr : (finishNumeric tag w r s).resStr = emptyString := rfl
@[simp] theorem finishNumeric_resSlen : (finishNumeric tag w r s).resSlen = 0 := rfl
@[simp] theorem finishNumeric_lastCode : (finishNumeric tag w r s).lastCode = .ok := rfl
@[simp] theorem finishNumeric_sticky : (finishNumeric tag w r s).sticky = s.sticky := rfl
@[simp] theorem finishNumeric_errCause : (finishNumeric tag w r s).errCause = s.errCause := rfl
@[simp] theorem finishNumeric_errCmd : (finishNumeric tag w r s).errCmd = s.errCmd := rfl
@[simp] theorem finishNumeric_errCrcCalc : (finishNumeric tag w r s).errCrcCalc = s.errCrcCalc := rfl
@[simp] theorem finishNumeric_errCrcRecv : (finishNumeric tag w r s).errCrcRecv = s.errCrcRecv := rfl
@[simp] theorem finishNumeric_params : (finishNumeric tag w r s).params = s.params := rfl
@[simp] theorem finishNumeric_inbox : (finishNumeric tag w r s).inbox = s.inbox := rfl
@[simp] theorem finishNumeric_completions : (finishNumeric tag w r s).completions = s.completions ++ [⟨.ok, w⟩] := rfl
@[simp] theorem finishNumeric_resetDraws : (finishNumeric tag w r s).resetDraws = s.resetDraws := rfl
end

section
variable (s : State)
@[simp] theorem applyReset_crcAcc : (applyReset s).crcAcc = Block.reset.crcAcc := rfl
@[simp] theorem applyReset_txFrame : (applyReset s).txFrame = Block.reset.txFrame := rfl
@[simp] theorem applyReset_txValid : (applyReset s).txValid = Block.reset.txValid := rfl
@[simp] theorem applyReset_rxBuf : (applyReset s).rxBuf = Block.reset.rxBuf := rfl
@[simp] theorem applyReset_rxLen : (applyReset s).rxLen = Block.reset.rxLen := rfl
@[simp] theorem applyReset_plValid : (applyReset s).plValid = Block.reset.plValid := rfl
@[simp] theorem applyReset_plLen : (applyReset s).plLen = Block.reset.plLen := rfl
@[simp] theorem applyReset_resTag : (applyReset s).resTag = Block.reset.resTag := rfl
@[simp] theorem applyReset_resWord : (applyReset s).resWord = Block.reset.resWord := rfl
@[simp] theorem applyReset_resRaw : (applyReset s).resRaw = Block.reset.resRaw := rfl
@[simp] theorem applyReset_resStr : (applyReset s).resStr = Block.reset.resStr := rfl
@[simp] theorem applyReset_resSlen : (applyReset s).resSlen = Block.reset.resSlen := rfl
@[simp] theorem applyReset_lastCode : (applyReset s).lastCode = Block.reset.lastCode := rfl
@[simp] theorem applyReset_sticky : (applyReset s).sticky = Block.reset.sticky := rfl
@[simp] theorem applyReset_errCause : (applyReset s).errCause = Block.reset.errCause := rfl
@[simp] theorem applyReset_errCmd : (applyReset s).errCmd = Block.reset.errCmd := rfl
@[simp] theorem applyReset_errCrcCalc : (applyReset s).errCrcCalc = Block.reset.errCrcCalc := rfl
@[simp] theorem applyReset_errCrcRecv : (applyReset s).errCrcRecv = Block.reset.errCrcRecv := rfl
@[simp] theorem applyReset_params : (applyReset s).params = s.params := rfl
@[simp] theorem applyReset_inbox : (applyReset s).inbox = s.inbox := rfl
@[simp] theorem applyReset_completions : (applyReset s).completions = s.completions := rfl
@[simp] theorem applyReset_resetDraws : (applyReset s).resetDraws = s.resetDraws := rfl
end

end Sys2Proof.Machine
end

