-- ==== Sys2Proof/Laws/Ops.lean ====
section
/-! SUPPORT. One lemma per shared operation: everything it can do, to be cited where the operation is called. -/

namespace Sys2Proof.Machine

/-! ### Reading a byte -/

/-- Inside the bytes the read succeeds. -/
theorem readByte_inside {w : Word} {bytes : List Byte} {i : Nat} {s : State} (h : i < bytes.length) :
    readByte w bytes i s = complete (bytes[i].setWidth 32) s := by
  simp [readByte, List.getElem?_eq_getElem h]

/-- Past the end the read fails. -/
theorem readByte_outside {w : Word} {bytes : List Byte} {i : Nat} {s : State} (h : bytes.length ≤ i) :
    readByte w bytes i s = raise w .argRange s := by
  simp [readByte, List.getElem?_eq_none h]

/-- A read of a byte does one of two things, and neither writes the data it reads. -/
theorem readByte_cases (w : Word) (bytes : List Byte) (i : Nat) (s : State) :
    (∃ b, bytes[i]? = some b ∧ readByte w bytes i s = complete (b.setWidth 32) s) ∨
    (bytes.length ≤ i ∧ readByte w bytes i s = raise w .argRange s) := by
  rcases Nat.lt_or_ge i bytes.length with h | h
  · exact .inl ⟨bytes[i], List.getElem?_eq_getElem h, readByte_inside h⟩
  · exact .inr ⟨h, readByte_outside h⟩

/-- How many bytes the response view holds. -/
@[simp] theorem length_rxBytes (s : State) : (rxBytes s).length = s.rxLen.val := by
  have := s.rxLen.isLt
  simp [rxBytes]
  omega

/-- How many bytes the payload view holds. -/
@[simp] theorem length_payloadBytes (s : State) : (payloadBytes s).length = s.plLen.val := by
  have := s.plLen.isLt
  simp [payloadBytes]
  omega

/-- How many bytes the decoded string holds. -/
@[simp] theorem length_resultString (s : State) : (resultString s).length = s.resSlen.val := by
  have := s.resSlen.isLt
  simp [resultString]
  omega

/-! ### The numeric word -/

/-- When the numeric word exists, and what it is (R101). -/
theorem numericWord_ok {s : State} {w : Word} (h : numericWord s = .ok w) :
    s.plValid = true ∧ 6 ≤ s.plLen.val ∧ (s.params.strictNumericLength = true → s.plLen.val ≤ 6) ∧
    w = wordOfBytes s.rxBuf[2] s.rxBuf[3] s.rxBuf[4] s.rxBuf[5] := by
  unfold numericWord at h
  split at h
  · cases h
  · split at h
    · cases h
    · split at h
      · cases h
      · rename_i valid long strict
        refine ⟨by simpa using valid, by omega, fun hs => ?_, (Except.ok.inj h).symm⟩
        by_contra hc
        exact strict ⟨hs, by omega⟩

/-- When it does not, and the code of each case, in the order of the checks (R101, R135). -/
theorem numericWord_error {s : State} {k : Code} (h : numericWord s = .error k) :
    (k = .noData ∧ s.plValid = false) ∨
    (k = .payloadShort ∧ s.plValid = true ∧ s.plLen.val < 6) ∨
    (k = .payloadLong ∧ s.plValid = true ∧ s.params.strictNumericLength = true ∧ 6 < s.plLen.val) := by
  unfold numericWord at h
  split at h
  · rename_i valid
    exact .inl ⟨(Except.error.inj h).symm, valid⟩
  · rename_i valid
    split at h
    · rename_i short
      exact .inr (.inl ⟨(Except.error.inj h).symm, by simpa using valid, short⟩)
    · split at h
      · rename_i strict
        exact .inr (.inr ⟨(Except.error.inj h).symm, by simpa using valid, strict.1, strict.2⟩)
      · cases h

/-! ### The check of a response -/

/-- A sequence ending in two bytes is checked against them (R86). -/
theorem stripAndVerify_append (p : List Byte) (first second : Byte) :
    stripAndVerify (p ++ [first, second]) =
      if crc16 p = halfOfTrailer first second then .payload p
      else .mismatch (crc16 p) (halfOfTrailer first second) := by
  simp [stripAndVerify]

/-- Fewer than two bytes have no trailer (R86). -/
theorem stripAndVerify_short {l : List Byte} (h : l.length < 2) : stripAndVerify l = .short := by
  match l with
  | [] => rfl
  | [_] => rfl
  | _ :: _ :: _ => simp at h

/-- Two or more bytes are some bytes and a trailer. -/
theorem exists_trailer {l : List Byte} (h : 2 ≤ l.length) :
    ∃ p first second, l = p ++ [first, second] ∧ p.length = l.length - 2 := by
  have hd : (l.drop (l.length - 2)).length = 2 := by simp; omega
  obtain ⟨first, second, e⟩ := List.length_eq_two.mp hd
  exact ⟨l.take (l.length - 2), first, second, by rw [← e, List.take_append_drop], by simp⟩

/-- Everything the check can answer (R86). -/
theorem stripAndVerify_cases (l : List Byte) :
    (l.length < 2 ∧ stripAndVerify l = .short) ∨
    ∃ p first second, l = p ++ [first, second] ∧
      ((crc16 p = halfOfTrailer first second ∧ stripAndVerify l = .payload p) ∨
       (crc16 p ≠ halfOfTrailer first second ∧
          stripAndVerify l = .mismatch (crc16 p) (halfOfTrailer first second))) := by
  rcases Nat.lt_or_ge l.length 2 with h | h
  · exact .inl ⟨h, stripAndVerify_short h⟩
  · obtain ⟨p, first, second, rfl, -⟩ := exists_trailer h
    refine .inr ⟨p, first, second, rfl, ?_⟩
    rw [stripAndVerify_append]
    by_cases e : crc16 p = halfOfTrailer first second
    · exact .inl ⟨e, if_pos e⟩
    · exact .inr ⟨e, if_neg e⟩

/-! ### The CRC -/

/-- A stream of two parts is the stream of the second from where the first left it. -/
theorem crc16_append (s t : List Byte) :
    crc16 (s ++ t) = ~~~ (t.foldl crcByte (~~~ crc16 s)) := by
  simp [crc16, List.foldl_append]

/-- A CRC is its two bytes. -/
@[simp] theorem halfOfTrailer_bytes (k : Half) : halfOfTrailer (lowByte k) (highByte k) = k := by
  refine BitVec.eq_of_getLsbD_eq fun i hi => ?_
  simp only [halfOfTrailer, lowByte, highByte, BitVec.getLsbD_append, BitVec.getLsbD_extractLsb']
  interval_cases i <;> simp

/-! ### Outcomes -/

/-- What a needed result gives (R109). -/
theorem needResult_cases (w : Word) (s t : State) :
    (s.resTag = .none ∧ needResult w s t = raise w .noData s) ∨ (s.resTag ≠ .none ∧ needResult w s t = t) := by
  unfold needResult
  split
  · exact .inl ⟨‹_›, rfl⟩
  · exact .inr ⟨‹_›, rfl⟩

/-- What the block does, by the input it takes (R145, R146, R150). -/
theorem takeInput_cases (s : State) :
    (s.inbox = [] ∧ takeInput s = .next s) ∨
    (∃ w rest, s.inbox = .command w :: rest ∧ takeInput s = runWord w { s with inbox := rest }) ∨
    (∃ rest, s.inbox = .reset :: rest ∧ takeInput s = .next (applyReset { s with inbox := rest })) ∨
    (∃ w rest, s.inbox = .resetDuring w :: rest ∧ takeInput s = resetDuring w { s with inbox := rest }) := by
  unfold takeInput acceptInput
  rcases h : s.inbox with _ | ⟨x, rest⟩
  · exact .inl ⟨rfl, rfl⟩
  · cases x with
    | command w => exact .inr (.inl ⟨w, rest, rfl, rfl⟩)
    | reset => exact .inr (.inr (.inl ⟨rest, rfl, rfl⟩))
    | resetDuring w => exact .inr (.inr (.inr ⟨w, rest, rfl, rfl⟩))

/-- A word is executed as its command or as the one failure (R65, R66). -/
theorem runWord_cases (w : Word) (s : State) :
    (∃ i, decode w = .ok i ∧ runWord w s = exec i s) ∨
    (∃ e, decode w = .error e ∧ runWord w s = .next (raise w .illegalCommand s)) := by
  unfold runWord
  rcases h : decode w with e | i
  · exact .inr ⟨e, rfl, rfl⟩
  · exact .inl ⟨i, rfl, rfl⟩

/-- A reset that comes during a command leaves the registers at their reset values; the host has either that command's
completion or none (R150). -/
theorem resetDuring_next {w : Word} {s t : State} (h : resetDuring w s = .next t) :
    t = applyReset { s with resetDraws := s.resetDraws + 1 } ∨
    ∃ u, runWord w { s with resetDraws := s.resetDraws + 1 } = .next u ∧ t = applyReset u := by
  unfold resetDuring completeThenReset at h
  split at h
  · split at h
    · rename_i u e
      exact .inr ⟨u, e, by injection h with h; exact h.symm⟩
    · cases h
    · cases h
  · injection h with h
    exact .inl h.symm

end Sys2Proof.Machine
end

