-- ==== Sys2Proof/Laws/PerInstr.lean ====
section
/-! SUPPORT. A law of the commands as syntax: the word of each passes the must-be-zero check of its own format
(spec/30_encoding.md R62). -/

namespace Sys2Proof.Laws.EncodesWellFormed

/-- The encoded word has its format's must-be-zero fields zero. -/
def Statement (i : Instr) : Prop := i.format.wellFormed (encode i) = true

/-- A packed word whose A and B fields are zero passes the check of format C8, whatever OP and C are. -/
theorem c8_packWord (op c : Byte) : Format.wellFormed .c8 (packWord op 0 0 c) = true := by
  have h : packWord op 0 0 c &&& Format.mustBeZero .c8 = 0 := by
    refine BitVec.eq_of_getLsbD_eq fun i hi => ?_
    simp only [packWord, Format.mustBeZero, BitVec.getLsbD_and, BitVec.getLsbD_append]
    interval_cases i <;> simp
  simpa [Format.wellFormed] using h

theorem nop : Statement .nop := rfl
theorem crcInit : Statement .crcInit := rfl
theorem crcByte (c : Byte) : Statement (.crcByte c) := c8_packWord _ c
theorem crcRead : Statement .crcRead := rfl
theorem frameBuild (a b c : Byte) : Statement (.frameBuild a b c) := by
  simp [Statement, Instr.format, Format.wellFormed, Format.mustBeZero]
theorem frameRead (c : Byte) : Statement (.frameRead c) := c8_packWord _ c
theorem rxClear : Statement .rxClear := rfl
theorem rxPush (c : Byte) : Statement (.rxPush c) := c8_packWord _ c
theorem rxVerify : Statement .rxVerify := rfl
theorem rxRead (c : Byte) : Statement (.rxRead c) := c8_packWord _ c
theorem plRead (c : Byte) : Statement (.plRead c) := c8_packWord _ c
theorem decInt32 : Statement .decInt32 := rfl
theorem decFloat32 : Statement .decFloat32 := rfl
theorem decString : Statement .decString := rfl
theorem decDate : Statement .decDate := rfl
theorem resRead (c : Byte) : Statement (.resRead c) := c8_packWord _ c
theorem statusRead : Statement .statusRead := rfl
theorem errRead (c : Byte) : Statement (.errRead c) := c8_packWord _ c
theorem errClear : Statement .errClear := rfl

end Sys2Proof.Laws.EncodesWellFormed
end

