-- ==== Sys2Proof/Tests/Slice0.lean ====
section
/-! SUPPORT. Tests of one step or one function each. Every expected result is written out from the spec's encodings
(spec/30_encoding.md R64) or from its vectors (spec/95_test_vectors.md, named in the comments). The last part shows, for
each statement with hypotheses, a state and operands that meet them. -/

namespace Sys2Proof.Tests

open Sys2Proof.Machine Sys2Proof.Safety

/-! ### Helpers -/

/-- The next state, if there is one. -/
def after (r : Result) : Option State :=
  match r with
  | .next t => some t
  | .fault _ => none
  | .refused _ => none

/-- The last completion after a command. -/
def answer (i : Instr) (s : State) : Option Completion := (after (exec i s)).bind fun t => t.completions.getLast?

/-- A state that holds these response bytes. -/
def holding (bytes : List Byte) (len : Fin 17) : State :=
  { State.reset with rxBuf := Vector.ofFn fun i : Fin 16 => bytes.getD i.val 0, rxLen := len }

/-- A state that holds these response bytes, verified. -/
def verified (bytes : List Byte) (len : Fin 17) (pl : Fin 15) : State :=
  { holding bytes len with plValid := true, plLen := pl }

/-- RSP_I100 of the spec's vectors. -/
def rspI100 : List Byte := [0x00, 0x00, 0x00, 0x00, 0x00, 0x64, 0xAD, 0xD2]

/-- RSP_STR of the spec's vectors. -/
def rspStr : List Byte := [0x00, 0x06, 0x41, 0x2E, 0x31, 0x2E, 0x32, 0x3D, 0x08]

/-- RSP_D229 of the spec's vectors. -/
def rspD229 : List Byte := [0x00, 0x00, 0x38, 0xBB, 0x0C, 0x00, 0xE1, 0x54]

/-- A state with an integer result, as V-42-INT-1 leaves it. -/
def withInt : State := { verified rspI100 8 6 with resTag := .int32, resWord := 0x64, resRaw := 0x64 }

/-- A state with a string result, as V-42-STR-1 leaves it. -/
def withString : State :=
  { verified rspStr 9 7 with
    resTag := .string, resStr := #v[0x41, 0x2E, 0x31, 0x2E, 0x32, 0, 0, 0, 0, 0, 0, 0], resSlen := 5 }

/-- A state with a frame, as V-41-FB-2 leaves it. -/
def withFrame : State :=
  { State.reset with txFrame := #v[0x01, 0, 0, 0, 0, 0, 0, 0, 0xCC, 0x02], txValid := true }

/-- Parameters outside the constraint of R14. -/
def farParams : Params := { Params.spec with epochOffsetS := 300000000000 }

/-- A next state that a computation of it shows. -/
theorem next_of_after {α : Type} {r : Result} {f : State → α} {v : α} (h : (after r).map f = some v) :
    ∃ t, r = .next t ∧ f t = v := by
  cases r with
  | next t => exact ⟨t, rfl, by simpa [after] using h⟩
  | fault e => simp [after] at h
  | refused e => simp [after] at h

/-! ### Well-formedness: an ill-formed term for each check -/

theorem test_z_refuses_a_nonzero_field :
    Format.wellFormed .z 0x01000001 = false ∧ Format.wellFormed .z 0x01000100 = false ∧
    Format.wellFormed .z 0x01010000 = false ∧ Format.wellFormed .z 0x01000000 = true := by decide

theorem test_c8_refuses_a_nonzero_field :
    Format.wellFormed .c8 0x02010000 = false ∧ Format.wellFormed .c8 0x02000100 = false ∧
    Format.wellFormed .c8 0x020000FF = true := by decide

/-- FRAME_BUILD has no must-be-zero field, so no word with OP 0x10 is ill-formed (R83). -/
theorem test_abc_refuses_nothing : Format.wellFormed .abc 0x10FFFFFF = true := by decide

/-- R69: an operand of more than 8 bits, an operand too many, a string index past 11. -/
theorem test_assembler_refuses :
    Asm.line "RX_PUSH 256" = none ∧ Asm.line "NOP 1" = none ∧ Asm.line "RES_READ STR+12" = none ∧
    Asm.line ".word 0x100000000" = none := by decide +kernel

/-- R69: forms with two and three operands, names of selectors, a pseudo-instruction, a raw word. -/
theorem test_assembler_lines :
    Asm.line "FRAME_BUILD 2, 0x3B   # poll" = some [0x10023B00] ∧ Asm.line "RES_READ STR+11" = some [0x3400001B] ∧
    Asm.line "ERR_READ RECV" = some [0x41000003] ∧ Asm.line ".word 0xFF000000" = some [0xFF000000] ∧
    Asm.line "RX_LOAD 0x00, 100" = some [0x20000000, 0x21000000, 0x21000064] := by decide +kernel

/-! ### Decoding: a word of every constructor, written out from R64 -/

theorem test_decode_crc :
    decode 0x00000000 = .ok .nop ∧ decode 0x01000000 = .ok .crcInit ∧ decode 0x02000031 = .ok (.crcByte 0x31) ∧
    decode 0x03000000 = .ok .crcRead := by decide

theorem test_decode_frame :
    decode 0x10025003 = .ok (.frameBuild 0x02 0x50 0x03) ∧ decode 0x11000009 = .ok (.frameRead 0x09) := by decide

theorem test_decode_response :
    decode 0x20000000 = .ok .rxClear ∧ decode 0x210000AD = .ok (.rxPush 0xAD) ∧ decode 0x22000000 = .ok .rxVerify ∧
    decode 0x23000007 = .ok (.rxRead 0x07) ∧ decode 0x24000005 = .ok (.plRead 0x05) := by decide

theorem test_decode_typed :
    decode 0x30000000 = .ok .decInt32 ∧ decode 0x31000000 = .ok .decFloat32 ∧ decode 0x32000000 = .ok .decString ∧
    decode 0x33000000 = .ok .decDate ∧ decode 0x3400001B = .ok (.resRead 0x1B) := by decide

theorem test_decode_status :
    decode 0x40000000 = .ok .statusRead ∧ decode 0x41000002 = .ok (.errRead 0x02) ∧
    decode 0x42000000 = .ok .errClear := by decide

/-- V-40-17, V-43-3, V-43-5: words that are no command. -/
theorem test_decode_illegal :
    decode 0x02010000 = .error (.mustBeZero "CRC_BYTE") ∧ decode 0x05000000 = .error (.unknownOp 0x05) ∧
    decode 0x40000001 = .error (.mustBeZero "STATUS_READ") := by decide

theorem test_table_word : decodeTableWord 32 0x103FFFFF = some (.frameBuild 0x3F 0xFF 0xFF) := by decide

/-- R75: a C8 word with a nonzero B is ILLEGAL, though the mask column of R64 does not look at B (log entry 17). -/
theorem test_b_is_checked : decode 0x02000100 = .error (.mustBeZero "CRC_BYTE") := by decide

/-- The decoder's map and the map the statements use, two lists written out apart, agree. -/
theorem test_maps_agree :
    opcodeMap.map (fun r => (r.matchWord, r.mask)) = rowMap.map (fun r => (r.1, r.2.1)) := by decide

/-! ### Pure functions -/

/-- V-40-2, V-40-7, V-40-8, V-40-10. -/
theorem test_crc16 :
    crc16 [0x00] = 0xF078 ∧ crc16 [0x31, 0x32, 0x33, 0x34, 0x35, 0x36, 0x37, 0x38, 0x39] = 0x906E ∧
    crc16 [0, 0, 0, 0, 0, 0, 0, 0] = 0x8373 ∧ crc16 [0x12, 0x34] = 0xDEC1 := by decide +kernel

/-- V-42-DATE-10, -5, -14 and V-42-DATE-11: the packed dates. -/
theorem test_dates :
    packDate (dateOfTimestamp Params.spec 0xFFFFFFFF) = 0x083A0207 ∧
    packDate (dateOfTimestamp Params.spec 0x38BB0C00) = 0x07D0021D ∧
    packDate (dateOfTimestamp { Params.spec with tzOffsetS := -3600 } 0) = 0x07B10C1F ∧
    packDate (dateOfTimestamp { Params.spec with epochOffsetS := 946684800 } 0xFFFFFFFF) = 0x08580207 := by
  decide +kernel

/-- V-42-FLT-1 (123.4499969482421875 = 16180838 / 2^17), V-42-FLT-4, and the least subnormal. -/
theorem test_binary32 :
    binary32 0x42F6E666 = .finite false 16180838 (-17) ∧ binary32 0x7FC00001 = .nan false true 0x400001 ∧
    binary32 0x00000001 = .finite false 1 (-149) ∧ binary32 0xFF800000 = .infinity true := by decide

/-- The status word of 2.5: 0x07090457. -/
theorem test_status_word :
    statusWord { verified rspStr 9 7 with resTag := .date, sticky := true, lastCode := .illegalCommand } =
      0x07090457 := by decide

/-! ### One step of each command -/

theorem test_nop : answer .nop { State.reset with sticky := true } = some ⟨.ok, 0⟩ := by decide

/-- V-43-8: NOP clears CODE and leaves STICKY. -/
theorem test_nop_keeps_sticky :
    (after (exec .nop { State.reset with sticky := true, lastCode := .illegalCommand })).map statusWord =
      some 0x00000010 := by decide

theorem test_crc_init : (after (exec .crcInit { State.reset with crcAcc := 0x0F87 })).map (·.crcAcc) = some 0xFFFF := by
  decide

/-- V-L1-2. -/
theorem test_crc_byte : (after (exec (.crcByte 0x00) State.reset)).map (·.crcAcc) = some 0x0F87 := by decide +kernel

/-- V-40-12, fourth row. -/
theorem test_crc_byte_continues :
    (after (exec (.crcByte 0x34) { State.reset with crcAcc := 0x634B })).map (·.crcAcc) = some 0x8B13 := by
  decide +kernel

/-- V-40-13. -/
theorem test_crc_read : answer .crcRead { State.reset with crcAcc := 0xF0B8 } = some ⟨.ok, 0x00000F47⟩ := by decide

/-- V-41-FB-5. -/
theorem test_frame_build :
    (after (exec (.frameBuild 0x02 0x50 0x03) State.reset)).map (fun t => (t.txFrame.toList, t.completions)) =
      some ([0x02, 0x50, 0x03, 0, 0, 0, 0, 0, 0xAE, 0xF6], [⟨.ok, 0x0000F6AE⟩]) := by decide +kernel

/-- V-41-FB-11: the old frame survives; the status is 0x36 before the read. -/
theorem test_frame_build_out_of_range :
    (after (exec (.frameBuild 64 0 0) withFrame)).map (fun t => (t.txFrame[0], statusWord t, t.errCmd)) =
      some (0x01, 0x00000036, 0x10400000) := by decide

/-- V-41-FB-17. -/
theorem test_frame_read : answer (.frameRead 8) withFrame = some ⟨.ok, 0x000000CC⟩ := by decide

/-- V-41-FB-9, V-41-FB-14. -/
theorem test_frame_read_fails :
    answer (.frameRead 0) State.reset = some ⟨.noData, 0⟩ ∧ answer (.frameRead 10) withFrame = some ⟨.argRange, 0⟩ := by
  decide

/-- V-42-RES-8: the result survives RX_CLEAR. -/
theorem test_rx_clear : (after (exec .rxClear withInt)).map statusWord = some 0x00000100 := by decide

/-- V-41-RX-10. -/
theorem test_rx_push :
    (after (exec (.rxPush 0x00) (verified rspI100 8 6))).map (fun t => (statusWord t, t.completions)) =
      some (0x00090000, [⟨.ok, 0x00000009⟩]) := by decide

/-- V-41-RX-18, V-41-RX-19: the 16th push succeeds and the 17th fails. -/
theorem test_rx_push_full :
    answer (.rxPush 0) (holding [] 15) = some ⟨.ok, 0x00000010⟩ ∧
    answer (.rxPush 0) (holding [] 16) = some ⟨.rxOverflow, 0⟩ := by decide

/-- V-41-RX-5, V-41-RX-3. -/
theorem test_rx_verify :
    (after (exec .rxVerify (holding rspI100 8))).map statusWord = some 0x06080040 ∧
    (after (exec .rxVerify (holding [] 2))).map statusWord = some 0x00020040 := by decide +kernel

/-- V-41-RX-6, V-41-RX-2. -/
theorem test_rx_verify_fails :
    (after (exec .rxVerify (holding [0, 0, 0, 0, 0, 0x64, 0xAD, 0xD3] 8))).map
      (fun t => (statusWord t, t.errCrcCalc, t.errCrcRecv, t.errCmd)) =
        some (0x00080011, 0xD2AD, 0xD3AD, 0x22000000) ∧
    (after (exec .rxVerify (holding [] 1))).map statusWord = some 0x00010012 := by decide +kernel

/-- V-41-RX-15, V-41-RX-16. -/
theorem test_rx_read :
    answer (.rxRead 7) (holding rspI100 8) = some ⟨.ok, 0x000000D2⟩ ∧
    answer (.rxRead 8) (holding rspI100 8) = some ⟨.argRange, 0⟩ := by decide

/-- V-41-RX-12, V-41-RX-13, V-41-RX-11. -/
theorem test_pl_read :
    answer (.plRead 5) (verified rspI100 8 6) = some ⟨.ok, 0x00000064⟩ ∧
    answer (.plRead 6) (verified rspI100 8 6) = some ⟨.argRange, 0⟩ ∧
    answer (.plRead 0) (holding rspI100 8) = some ⟨.noData, 0⟩ := by decide

/-- V-42-INT-1. -/
theorem test_dec_int32 :
    (after (exec .decInt32 (verified rspI100 8 6))).map (fun t => (statusWord t, t.resWord, t.resRaw)) =
      some (0x06080140, 0x64, 0x64) := by decide

/-- V-42-LEN-1, V-42-LEN-2, V-42-LEN-5. -/
theorem test_dec_int32_fails :
    answer .decInt32 State.reset = some ⟨.noData, 0⟩ ∧
    answer .decInt32 (verified [0, 0, 0, 0, 0, 0x77, 0xCF] 7 5) = some ⟨.payloadShort, 0⟩ ∧
    answer .decInt32
      { verified [0, 0, 0, 0, 0, 0x64, 0xAA, 0x15, 0x84] 9 7 with
        params := { Params.spec with strictNumericLength := true } } = some ⟨.payloadLong, 0⟩ := by decide

/-- V-42-FLT-1. -/
theorem test_dec_float32 :
    (after (exec .decFloat32 (verified [0, 0, 0x42, 0xF6, 0xE6, 0x66, 0xDA, 0x39] 8 6))).map
      (fun t => (statusWord t, t.resWord)) = some (0x06080240, 0x42F6E666) := by decide

/-- V-42-STR-1. -/
theorem test_dec_string :
    (after (exec .decString (verified rspStr 9 7))).map (fun t => (statusWord t, resultString t)) =
      some (0x07090340, [0x41, 0x2E, 0x31, 0x2E, 0x32]) := by decide

/-- V-42-STR-4, V-42-STR-3. -/
theorem test_dec_string_bounds :
    (after (exec .decString (verified [] 2 0))).map statusWord = some 0x00020055 ∧
    answer .decString (verified [0, 0, 0x47, 0x0F] 4 2) = some ⟨.ok, 0⟩ := by decide

/-- V-42-DATE-5 and P5 step 17. -/
theorem test_dec_date :
    answer .decDate (verified rspD229 8 6) = some ⟨.ok, 0x07D0021D⟩ ∧
    answer .decDate (verified rspStr 9 7) = some ⟨.ok, 0x07D4081A⟩ := by decide +kernel

/-- U10. -/
theorem test_dec_date_refused :
    exec .decDate { verified rspD229 8 6 with params := farParams } = .refused .parametersOutsideConstraint := by rfl

/-- After V-42-STR-1: STR+4, STR+5, SLEN. -/
theorem test_res_read :
    answer (.resRead 0x14) withString = some ⟨.ok, 0x00000032⟩ ∧
    answer (.resRead 0x15) withString = some ⟨.argRange, 0⟩ ∧
    answer (.resRead 0x03) withString = some ⟨.ok, 5⟩ := by decide

/-- V-42-RES-1 to V-42-RES-4. -/
theorem test_res_read_without_result :
    answer (.resRead 0x00) State.reset = some ⟨.ok, 0⟩ ∧ answer (.resRead 0x01) State.reset = some ⟨.noData, 0⟩ ∧
    answer (.resRead 0x04) State.reset = some ⟨.argRange, 0⟩ ∧
    answer (.resRead 0x1C) State.reset = some ⟨.argRange, 0⟩ := by decide

/-- V-43-2. -/
theorem test_status_read : answer .statusRead (verified rspI100 8 6) = some ⟨.ok, 0x06080040⟩ := by decide

/-- V-43-11. -/
theorem test_err_read :
    answer (.errRead 0) { State.reset with errCause := .framingMismatch } = some ⟨.ok, 1⟩ ∧
    answer (.errRead 1) { State.reset with errCmd := 0x22000000 } = some ⟨.ok, 0x22000000⟩ ∧
    answer (.errRead 2) { State.reset with errCrcCalc := 0xD2AD } = some ⟨.ok, 0xD2AD⟩ ∧
    answer (.errRead 3) { State.reset with errCrcRecv := 0xD3AD } = some ⟨.ok, 0xD3AD⟩ := by decide

/-- V-43-6: status-neutral even when it fails. -/
theorem test_err_read_neutral :
    after (exec (.errRead 4) State.reset) = some { State.reset with completions := [⟨.argRange, 0⟩] } := by decide

/-- V-43-9. -/
theorem test_err_clear :
    after (exec .errClear
      { State.reset with
        lastCode := .illegalCommand, sticky := true, errCause := .illegalCommand, errCmd := 0x05000000 }) =
      some { State.reset with completions := [⟨.ok, 0⟩] } := by decide

/-- V-43-4: the whole word is recorded. -/
theorem test_illegal_word :
    (after (step (State.reset.withFetchWord 32 0xFFFFFFFF))).map (fun t => (statusWord t, t.errCmd)) =
      some (0x00000017, 0xFFFFFFFF) := by decide

theorem test_fetched_word_runs :
    (after (step (State.reset.withFetchWord 32 0x21000064))).map (fun t => (t.rxLen.val, t.rxBuf[0])) =
      some (1, 0x64) := by decide

/-- V-70-2. -/
theorem test_reset_input :
    after (step { withString with inbox := [.reset] }) = some State.reset := by decide

/-! ### Witnesses: states and operands that meet the statements' hypotheses, clause by clause -/

/-- EncodeUndoesDecode, StepRunsTheDecodedCommand: a word that decodes, and one that does not. -/
theorem witness_decoded_command :
    decode 0x24000005 = .ok (.plRead 0x05) ∧
    (State.reset.withFetchWord 32 0x24000005).inbox = [.command 0x24000005] ∧
    decode 0x02000100 = .error (.mustBeZero "CRC_BYTE") ∧
    (State.reset.withFetchWord 32 0x02000100).inbox = [.command 0x02000100] := by decide

/-- WordDecodesToTheRowItSelects, IllegalWordFailsAndRecordsTheWord: a word that selects no row, in both ways. -/
theorem witness_no_row :
    (∀ row ∈ rowMap, (0x05000000 : Word) &&& row.2.1 ≠ row.1) ∧
    (∀ row ∈ rowMap, (0x41010000 : Word) &&& row.2.1 ≠ row.1) := by decide

/-- The EncodedAs clause of every command statement: for each OP a word with its must-be-zero fields zero, and (but for
FRAME_BUILD, which has none) one whose field B is not. -/
theorem witness_encoded :
    (∀ r ∈ opcodeMap, (packWord r.op 0 0 0).extractLsb' 24 8 = r.op ∧
      packWord r.op 0 0 0 &&& r.format.mustBeZero = 0) ∧
    (∀ r ∈ opcodeMap, r.format ≠ .abc → (packWord r.op 0 1 0).extractLsb' 24 8 = r.op ∧
      packWord r.op 0 1 0 &&& r.format.mustBeZero ≠ 0) := by
  decide +kernel

/-- AssemblerRefusesWhatDoesNotFit: 255 and 256; 256 among three operands; string indices 11 and 12; the largest word and
the one after it; lists of 16 and 17 bytes. -/
theorem witness_assembler :
    Asm.number "255".toList = some 255 ∧ Asm.number "0x100".toList = some 256 ∧
    "0x100".toList ∈ ["1".toList, "0x100".toList, "2".toList] ∧
    Asm.number "11".toList = some 11 ∧ Asm.number "12".toList = some 12 ∧
    Asm.number "0xFFFFFFFF".toList = some (2 ^ 32 - 1) ∧ Asm.number "0x100000000".toList = some (2 ^ 32) ∧
    (List.replicate 17 "0".toList).length = 17 ∧
    (List.replicate 16 "1".toList).mapM Asm.byte = some (List.replicate 16 1) := by decide +kernel

/-- IdleStepHoldsTheState, ResetSetsEveryRegister: no input, a reset, a reset during a command. -/
theorem witness_inputs :
    State.reset.inbox = [] ∧ ({ withString with inbox := [.reset] } : State).inbox = .reset :: [] ∧
    ∃ t, step { withString with inbox := [.resetDuring 0x00000000] } = .next t := by
  refine ⟨rfl, rfl, ?_⟩
  show ∃ t, resetDuring 0x00000000 _ = .next t
  unfold resetDuring
  split
  · exact ⟨_, rfl⟩
  · exact ⟨_, rfl⟩

/-- FrameBuildWritesTheFrame, FrameIsACheckedBuffer: addresses 63 and 64. -/
theorem witness_frame_build :
    (63 : Byte).toNat ≤ State.reset.params.addrMax.toNat ∧ State.reset.params.addrMax.toNat < (64 : Byte).toNat := by
  decide

/-- FrameReadAnswersTheByte: no frame; a frame with indices 9 and 10. -/
theorem witness_frame_read :
    State.reset.txValid = false ∧ withFrame.txValid = true ∧ (9 : Byte).toNat < 10 ∧ 9 < (10 : Byte).toNat := by decide

/-- RxPushAppendsTheByte: lengths 15 and 16. -/
theorem witness_rx_push : (holding [] 16).rxLen.val = 16 ∧ (holding [] 15).rxLen.val < 16 ∧
    (16 : Fin 17).val = (holding [] 15).rxLen.val + 1 := by decide

/-- RxVerifyChecksTheTrailer: one byte; an empty payload with its trailer, and with another; a payload of 14. -/
theorem witness_rx_verify :
    (holding [] 1).rxLen.val < 2 ∧
    (holding [0x00, 0x00] 2).rxBuf.toList.take 2 = [] ++ [0x00, 0x00] ∧
    crc16 [] = (0x00 : Byte) ++ (0x00 : Byte) ∧ (0 : Fin 15).val + 2 = (holding [0x00, 0x00] 2).rxLen.val ∧
    (holding [0x47, 0x0F] 2).rxBuf.toList.take 2 = [] ++ [0x47, 0x0F] ∧
    crc16 [] ≠ (0x0F : Byte) ++ (0x47 : Byte) ∧ (14 : Fin 15).val + 2 = (holding [] 16).rxLen.val := by decide +kernel

/-- RxReadAnswersTheByte: the last byte held and the one after it. -/
theorem witness_rx_read :
    (7 : Byte).toNat < (holding rspI100 8).rxLen.val ∧ (holding rspI100 8).rxLen.val ≤ (8 : Byte).toNat ∧
    (15 : Byte).toNat < 16 ∧ (15 : Byte).toNat < (holding [] 16).rxLen.val := by decide

/-- PlReadAnswersThePayloadByte: no payload; the last payload byte and the one after it. -/
theorem witness_pl_read :
    (holding rspI100 8).plValid = false ∧ (verified rspI100 8 6).plValid = true ∧
    (5 : Byte).toNat < (verified rspI100 8 6).plLen.val ∧ (verified rspI100 8 6).plLen.val ≤ (6 : Byte).toNat := by
  decide

/-- DecInt32, DecFloat32, DecDate: no payload; payloads of 5, 6 and 7 bytes; 7 under the strict rule. -/
theorem witness_numeric_decode :
    State.reset.plValid = false ∧ (verified rspI100 7 5).plLen.val < 6 ∧
    (6 ≤ (verified rspI100 8 6).plLen.val ∧ (verified rspI100 8 6).params.legal = true ∧
      ((verified rspI100 8 6).params.strictNumericLength = true → (verified rspI100 8 6).plLen.val = 6)) ∧
    (6 < (verified rspStr 9 7).plLen.val ∧
      ({ verified rspStr 9 7 with params := { Params.spec with strictNumericLength := true } } : State).params.strictNumericLength
        = true) := by decide

/-- DecStringCopiesTheBytes: payloads of 1, 2 and 14 bytes. -/
theorem witness_string_decode :
    (verified [] 3 1).plLen.val < 2 ∧ (0 : Fin 13).val + 2 = (verified [] 4 2).plLen.val ∧
    (12 : Fin 13).val + 2 = (verified [] 16 14).plLen.val := by decide

/-- DateRefusedOnlyOutsideTheConstraint: parameters on both sides of the constraint and of the sufficient bound, and a
command that is refused. -/
theorem witness_date_refused :
    ({ verified rspD229 8 6 with params := farParams } : State).params.legal = false ∧
    (verified rspD229 8 6).plValid = true ∧ 6 ≤ (verified rspD229 8 6).plLen.val ∧
    |({ Params.spec with epochOffsetS := 34359738368 } : Params).tzOffsetS| +
      |({ Params.spec with epochOffsetS := 34359738368 } : Params).epochOffsetS| ≤ 2 ^ 35 ∧
    exec .decDate { verified rspD229 8 6 with params := farParams } = .refused .parametersOutsideConstraint := by
  refine ⟨by decide, by decide, by decide, by simp [Params.spec], rfl⟩

/-- ResReadAnswersTheSelectedField: selectors 0x04, 0x0F and 0x1C; 0x01, 0x03, 0x10 and 0x1B; string bytes 4 and 5 of 5. -/
theorem witness_res_read :
    (∀ c ∈ [0x04#8, 0x0F, 0x1C, 0xFF], (0x03 < c.toNat ∧ c.toNat < 0x10) ∨ 0x1B < c.toNat) ∧
    (∀ c ∈ [0x01#8, 0x03, 0x10, 0x1B],
      (0x01 ≤ c.toNat ∧ c.toNat ≤ 0x03) ∨ (0x10 ≤ c.toNat ∧ c.toNat ≤ 0x1B)) ∧
    State.reset.resTag = .none ∧ withString.resTag ≠ .none ∧
    (0x14#8).toNat = 0x10 + (4 : Fin 12).val ∧ (4 : Fin 12).val < withString.resSlen.val ∧
    (0x15#8).toNat = 0x10 + (5 : Fin 12).val ∧ withString.resSlen.val ≤ (5 : Fin 12).val := by decide

/-- ErrReadAnswersTheDiagnostic: the first unknown selector. -/
theorem witness_err_read : 0x03 < (0x04#8).toNat := by decide

/-- ResidueCheckEqualsTrailerCheck, StripUndoesAppend, ResponseRoundTripByCommands: two bytes; a wrong trailer; a
payload of 14. -/
theorem witness_trailers :
    2 ≤ ([0x00, 0x00] : List Byte).length ∧ ([0x47, 0x0F] : List Byte) ≠ trailerOf (crc16 []) ∧
    (List.replicate 14 (0x41 : Byte)).length ≤ 14 := by decide +kernel

/-- StreamAgreesWithCrc16, EveryCommandAnswersOnce, EveryPresentedWordIsAnswered: legal parameters, and other commands
between the bytes. -/
theorem witness_stream :
    State.reset.params.legal = true ∧
    (∀ i ∈ [Instr.crcByte 0x31, .frameBuild 1 0 0, .crcRead, .crcByte 0x32], i ≠ .crcInit) := by decide

/-- OnlyTheListedCommandsWrite, CompletionDecidesTheStatusRegisters, EachCodeIsRaisedByItsCommands,
RepeatedCommandChangesNothing, DecodeDependsOnItsBytesOnly: a command with a next state and its completion, for a
success, a failure, a neutral command and a failed decode. -/
theorem witness_next_states :
    (∃ t, exec .rxVerify (holding rspI100 8) = .next t ∧ t.completions = [] ++ [⟨.ok, 6⟩]) ∧
    (∃ t, exec (.rxPush 0) (holding [] 16) = .next t ∧ t.completions = [] ++ [⟨.rxOverflow, 0⟩]) ∧
    (∃ t, exec (.errRead 4) State.reset = .next t ∧ t.completions = [] ++ [⟨.argRange, 0⟩]) ∧
    (∃ t, exec .decInt32 State.reset = .next t ∧ t.completions = [] ++ [⟨.noData, 0⟩]) ∧
    (∃ t, exec .decDate (verified rspD229 8 6) = .next t) ∧ (∃ t, exec .decString withString = .next t) := by
  exact ⟨next_of_after (f := (·.completions)) (by decide +kernel), next_of_after (f := (·.completions)) (by decide),
    next_of_after (f := (·.completions)) (by decide), next_of_after (f := (·.completions)) (by decide),
    ⟨_, rfl⟩, ⟨_, rfl⟩⟩

/-- The invariant statements and StepKeepsTheParameters: a state that meets each invariant with something to keep, and a
step from it. -/
theorem witness_invariants :
    PayloadInv (verified rspI100 8 6) ∧ ResultInv withString ∧ FrameInv withFrame ∧
    ErrorInv { State.reset with lastCode := .noData, sticky := true, errCause := .noData, errCmd := 0x30000000 } ∧
    ∃ t, step ((verified rspI100 8 6).withFetchWord 32 0x210000AA) = .next t := by
  refine ⟨by unfold PayloadInv; decide +kernel, by unfold ResultInv; decide +kernel,
    by unfold FrameInv; decide +kernel, by unfold ErrorInv; decide, ⟨_, rfl⟩⟩

/-- PayloadWindow: a step that makes a payload valid, and one that ends it; the inputs that end it, with room for a push
at 15 bytes; no payload. -/
theorem witness_payload_window :
    (holding rspI100 8).plValid = false ∧
    (after (step ((holding rspI100 8).withFetchWord 32 0x22000000))).map (·.plValid) = some true ∧
    (verified rspI100 8 6).plValid = true ∧
    (after (step ((verified rspI100 8 6).withFetchWord 32 0x20000000))).map (·.plValid) = some false ∧
    (verified [] 15 13).rxLen.val < 16 ∧
    ((verified [] 15 13).withFetchWord 32 0x210000AA).inbox = [.command (wordWithC 0x21000000 0xAA)] ∧
    State.reset.plValid = false := by
  decide +kernel

/-- OnlyErrClearAndResetClearSticky: a step that clears it. -/
theorem witness_sticky_cleared :
    (after (step ({ State.reset with sticky := true, errCause := .noData }.withFetchWord 32 0x42000000))).map
      (·.sticky) = some false := by decide

/-- ResultLastsUntilTheNextDecode: a decode that changes the result. -/
theorem witness_result_changes :
    (after (step (withInt.withFetchWord 32 0x32000000))).map (·.resTag) = some .string ∧ withInt.resTag = .int32 := by
  decide

/-- StaleBytesAreUnobservable: two states that differ only past RX_LEN. -/
theorem witness_stale_bytes :
    PayloadInv (holding rspI100 4) ∧ AgreeButStaleBytes (holding rspI100 4) (holding [0, 0, 0, 0, 0xFF] 4) ∧
    holding rspI100 4 ≠ holding [0, 0, 0, 0, 0xFF] 4 := by
  unfold PayloadInv AgreeButStaleBytes
  decide +kernel

/-- DecodeDependsOnItsBytesOnly: two payloads that agree on bytes 2..5 and not on byte 0. -/
theorem witness_same_value_bytes :
    (∀ j : Fin 16, 2 ≤ j.val → j.val ≤ 5 →
      (verified (0xFF :: rspI100.drop 1) 8 6).rxBuf[j] = (verified rspI100 8 6).rxBuf[j]) ∧
    (verified (0xFF :: rspI100.drop 1) 8 6).rxBuf[0] ≠ (verified rspI100 8 6).rxBuf[0] := by decide

/-- PackedDateLosesNothing: the spec's parameters are legal and have no offset. -/
theorem witness_packed_date : Params.spec.legal = true ∧ Params.spec.dateOffset = 0 := by decide

/-- Binary32ReadsEveryWord: a word of each case. -/
theorem witness_binary32 :
    (0x7F800000 : Word).toNat / 2 ^ 23 % 2 ^ 8 = 255 ∧ (0x7F800000 : Word).toNat % 2 ^ 23 = 0 ∧
    (0x7FC00001 : Word).toNat / 2 ^ 23 % 2 ^ 8 = 255 ∧ (0x7FC00001 : Word).toNat % 2 ^ 23 ≠ 0 ∧
    (0x00000001 : Word).toNat / 2 ^ 23 % 2 ^ 8 = 0 ∧ (0x42C80000 : Word).toNat / 2 ^ 23 % 2 ^ 8 = 133 := by decide

end Sys2Proof.Tests
end

section
/-! The calendar of spec/42_decode.md R108 in closed form. R108 counts years from 1 March: a day is the first day of its
March-based year plus a day of that year, and the calendar year follows from these two. -/

namespace Sys2Proof.Machine

/-! ### March-based years -/

/-- The day, counted from 0000-03-01, on which the March-based year `y` begins. -/
def marchFirst (y : Int) : Int := 365 * y + y / 4 - y / 100 + y / 400

theorem marchFirst_mono {y z : Int} (h : y ≤ z) : marchFirst y ≤ marchFirst z := by
  have hfour : y / 4 ≤ z / 4 := by omega
  have hcentury : y - y / 100 ≤ z - z / 100 := by omega
  have hera : y / 400 ≤ z / 400 := by omega
  unfold marchFirst
  omega

/-- A year has 365 or 366 days. -/
theorem marchFirst_succ (y : Int) : marchFirst y + 365 ≤ marchFirst (y + 1) ∧ marchFirst (y + 1) ≤ marchFirst y + 366 := by
  have hcentury : y / 4 - y / 100 ≤ (y + 1) / 4 - (y + 1) / 100 ∧ (y + 1) / 4 - (y + 1) / 100 ≤ y / 4 - y / 100 + 1 := by
    omega
  have hera : (y + 1) / 100 - (y + 1) / 400 ≤ y / 100 - y / 400 + 1 := by omega
  unfold marchFirst
  omega

/-- An era of 400 years has 146097 days. -/
theorem marchFirst_add_eras (y era : Int) : marchFirst (y + era * 400) = marchFirst y + era * 146097 := by
  unfold marchFirst
  omega

/-- Inside an era a year is its century, its cycle of four years and a year of the cycle, and begins where they say. -/
theorem exists_century_cycle_year {y : Int} (h0 : 0 ≤ y) (h1 : y < 400) :
    ∃ c q n : Int, (0 ≤ c ∧ c ≤ 3) ∧ (0 ≤ q ∧ q ≤ 24) ∧ (0 ≤ n ∧ n ≤ 3) ∧ y = 100 * c + 4 * q + n ∧
      marchFirst y = 36524 * c + 1461 * q + 365 * n := by
  unfold marchFirst
  exact ⟨y / 100, y % 100 / 4, y % 4, by omega, by omega, by omega, by omega, by omega⟩

/-! ### The year of the era, as R108 computes it -/

/-- R108's dividend: the day of the era less the leap days before it. -/
def daysLessLeapDays (doe : Int) : Int := doe - doe / 1460 + doe / 36524 - doe / 146096

/-- R108's `yoe`: the March-based year of the era of a day of the era. -/
def yearOfEra (doe : Int) : Int := daysLessLeapDays doe / 365

theorem yearOfEra_range {doe : Int} (h0 : 0 ≤ doe) (h1 : doe < 146097) : 0 ≤ yearOfEra doe ∧ yearOfEra doe < 400 := by
  unfold yearOfEra daysLessLeapDays
  omega

theorem daysLessLeapDays_mono {d e : Int} (h : d ≤ e) : daysLessLeapDays d ≤ daysLessLeapDays e := by
  have hleap : d - d / 1460 ≤ e - e / 1460 := by omega
  have hcentury : d / 36524 - d / 146096 ≤ e / 36524 - e / 146096 := by omega
  unfold daysLessLeapDays
  omega

theorem daysLessLeapDays_marchFirst {y : Int} (h0 : 0 ≤ y) (h1 : y < 400) :
    daysLessLeapDays (marchFirst y) = 365 * y := by
  obtain ⟨c, q, n, hc, hq, hn, hy, hfirst⟩ := exists_century_cycle_year h0 h1
  have hcycle : marchFirst y / 1460 = 25 * c + q := by omega
  have hcentury : marchFirst y / 36524 = c := by omega
  have hera : marchFirst y / 146096 = 0 := by omega
  rw [daysLessLeapDays, hcycle, hcentury, hera]
  omega

theorem daysLessLeapDays_lt_of_lt_marchFirst {y doe : Int} (h0 : 0 < y) (h1 : y < 400) (h : doe < marchFirst y) :
    daysLessLeapDays doe < 365 * y := by
  obtain ⟨c, q, n, hc, hq, hn, hy, hfirst⟩ := exists_century_cycle_year h0.le h1
  have hcycle : (marchFirst y - 1) / 1460 = 25 * c + q := by omega
  have hcentury : (marchFirst y - 1) / 36524 ≤ c := by omega
  have hera : (marchFirst y - 1) / 146096 = 0 := by omega
  calc daysLessLeapDays doe
      ≤ daysLessLeapDays (marchFirst y - 1) := daysLessLeapDays_mono (by omega)
    _ < 365 * y := by rw [daysLessLeapDays, hcycle, hera]; omega

/-- R108's `yoe` is the year of the era that the day lies in. -/
theorem marchFirst_yearOfEra {doe : Int} (h0 : 0 ≤ doe) (h1 : doe < 146097) :
    marchFirst (yearOfEra doe) ≤ doe ∧ doe < marchFirst (yearOfEra doe + 1) := by
  obtain ⟨hy0, hy1⟩ := yearOfEra_range h0 h1
  constructor
  · by_contra hbefore
    have hpos : yearOfEra doe ≠ 0 := fun h => hbefore (by rw [h]; exact h0)
    have := daysLessLeapDays_lt_of_lt_marchFirst (by omega) hy1 (not_le.mp hbefore)
    unfold yearOfEra at this
    omega
  · by_contra hafter
    have hlast : yearOfEra doe + 1 ≠ 400 := fun h => hafter (by rw [h]; exact h1)
    have := daysLessLeapDays_mono (not_lt.mp hafter)
    rw [daysLessLeapDays_marchFirst (by omega) (by omega)] at this
    unfold yearOfEra at this
    omega

/-! ### Dates -/

/-- R108's `mp`: the month of a day of a March-based year, March being 0. -/
def marchMonth (doy : Int) : Int := (5 * doy + 2) / 153

/-- The calendar month of a day of a March-based year (R108). -/
def monthOfDay (doy : Int) : Int := if marchMonth doy < 10 then marchMonth doy + 3 else marchMonth doy - 9

/-- The date of a day of a March-based year: January and February belong to the next calendar year (R108). -/
def marchDate (y doy : Int) : Date :=
  { year := if monthOfDay doy ≤ 2 then y + 1 else y
    month := monthOfDay doy
    day := doy - (153 * marchMonth doy + 2) / 5 + 1 }

/-- What `civil_from_days` computes: the March-based year the day lies in and the day of that year, read as a date. -/
theorem civilFromDays_marchDate (z : Int) :
    ∃ y doy, z + 719468 = marchFirst y + doy ∧ 0 ≤ doy ∧ doy < marchFirst (y + 1) - marchFirst y ∧
      civilFromDays z = marchDate y doy := by
  obtain ⟨era, hera⟩ : ∃ era, (z + 719468) / 146097 = era := ⟨_, rfl⟩
  obtain ⟨doe, hdoe⟩ : ∃ doe, z + 719468 - era * 146097 = doe := ⟨_, rfl⟩
  have h0 : 0 ≤ doe := by omega
  have h1 : doe < 146097 := by omega
  obtain ⟨hfrom, hto⟩ := marchFirst_yearOfEra h0 h1
  have hfirst := marchFirst_add_eras (yearOfEra doe) era
  have hnext := marchFirst_add_eras (yearOfEra doe + 1) era
  rw [add_right_comm] at hnext
  refine ⟨yearOfEra doe + era * 400, doe - marchFirst (yearOfEra doe), by omega, by omega, by omega, ?_⟩
  have hleap : 365 * yearOfEra doe + yearOfEra doe / 4 - yearOfEra doe / 100 = marchFirst (yearOfEra doe) := by
    have := yearOfEra_range h0 h1
    unfold marchFirst
    omega
  rw [← hleap]
  subst hera hdoe
  rfl

theorem marchDate_year {y doy : Int} (h0 : 0 ≤ doy) (h1 : doy < 366) :
    (marchDate y doy).year = if doy < 306 then y else y + 1 := by
  simp only [marchDate, monthOfDay, marchMonth]
  split_ifs <;> omega

theorem civilFromDays_month_day_range (z : Int) :
    (1 ≤ (civilFromDays z).month ∧ (civilFromDays z).month ≤ 12) ∧
    (1 ≤ (civilFromDays z).day ∧ (civilFromDays z).day ≤ 31) := by
  obtain ⟨y, doy, -, h0, h1, hdate⟩ := civilFromDays_marchDate z
  have hlen := marchFirst_succ y
  rw [hdate]
  simp only [marchDate, monthOfDay, marchMonth]
  split_ifs <;> omega

/-! ### Calendar years -/

/-- The day, counted from 1970-01-01, of the first of January of a year. -/
def newYearsDay (y : Int) : Int := marchFirst (y - 1) + 306 - 719468

/-- The year of a day is the last one that has begun. -/
theorem le_civilFromDays_year_iff (y z : Int) : y ≤ (civilFromDays z).year ↔ newYearsDay y ≤ z := by
  obtain ⟨m, doy, hday, h0, h1, hdate⟩ := civilFromDays_marchDate z
  have hlen := marchFirst_succ m
  have hprev := marchFirst_succ (m - 1)
  rw [sub_add_cancel] at hprev
  rw [hdate, marchDate_year h0 (by omega), newYearsDay]
  split_ifs with hjan
  · rcases le_or_gt y m with hy | hy
    · have := marchFirst_mono (show y - 1 ≤ m - 1 by omega)
      exact ⟨fun _ => by omega, fun _ => hy⟩
    · have := marchFirst_mono (show m ≤ y - 1 by omega)
      exact ⟨fun _ => by omega, fun _ => by omega⟩
  · rcases le_or_gt y (m + 1) with hy | hy
    · have := marchFirst_mono (show y - 1 ≤ m by omega)
      exact ⟨fun _ => by omega, fun _ => hy⟩
    · have := marchFirst_mono (show m + 1 ≤ y - 1 by omega)
      exact ⟨fun _ => by omega, fun _ => by omega⟩

/-- The year of a timestamp is the last one that has begun by its second (R107). -/
theorem le_dateOfTimestamp_year_iff (p : Params) (w : Word) (y : Int) :
    y ≤ (dateOfTimestamp p w).year ↔ newYearsDay y * 86400 ≤ w.toNat + p.dateOffset := by
  rw [dateOfTimestamp, le_civilFromDays_year_iff, Int.le_ediv_iff_mul_le (by decide)]

theorem legal_iff (p : Params) :
    p.legal = true ↔ newYearsDay 1 * 86400 ≤ p.dateOffset ∧ p.dateOffset + 4294967295 < newYearsDay 10000 * 86400 := by
  rw [Params.legal, decide_eq_true_iff]
  rfl

/-- R14's constraint says what it is for: no timestamp leaves the years 1..9999. -/
theorem legal_iff_year_range (p : Params) :
    p.legal = true ↔ ∀ w : Word, 1 ≤ (dateOfTimestamp p w).year ∧ (dateOfTimestamp p w).year ≤ 9999 := by
  have hrange (w : Word) : (1 ≤ (dateOfTimestamp p w).year ∧ (dateOfTimestamp p w).year ≤ 9999) ↔
      newYearsDay 1 * 86400 ≤ w.toNat + p.dateOffset ∧ w.toNat + p.dateOffset < newYearsDay 10000 * 86400 := by
    have hfirst := le_dateOfTimestamp_year_iff p w 1
    have hafter := le_dateOfTimestamp_year_iff p w 10000
    omega
  simp only [hrange, legal_iff]
  constructor
  · intro h w
    have := w.isLt
    omega
  · intro h
    have hzero : ((0 : Word).toNat : Int) = 0 := rfl
    have hmax : ((BitVec.allOnes 32).toNat : Int) = 4294967295 := rfl
    have hfirst := h 0
    have hlast := h (BitVec.allOnes 32)
    omega

/-- R14's sufficient bound. -/
theorem legal_of_offsets_le {p : Params} (h : |p.tzOffsetS| + |p.epochOffsetS| ≤ 2 ^ 35) : p.legal = true := by
  have hsum := abs_le.mp ((abs_add_le _ _).trans h)
  rw [Params.legal, decide_eq_true_iff, Params.dateOffset]
  omega

end Sys2Proof.Machine
end

section
/-! The packed date (spec/42_decode.md R107): a date whose fields fit in their bits is read back as it was, and under
R14's constraint they fit. -/

namespace Sys2Proof.Machine

/-- A number that fits in `n` bits is read back from them. -/
theorem toNat_ofInt_of_fits {n : Nat} {v : Int} (h0 : 0 ≤ v) (h1 : v < 2 ^ n) : ((BitVec.ofInt n v).toNat : Int) = v := by
  rw [BitVec.toNat_ofInt, Int.toNat_of_nonneg (Int.emod_nonneg _ (by positivity))]
  exact Int.emod_eq_of_lt h0 (by exact_mod_cast h1)

/-- The three fields of a packed date. -/
theorem unpackDate_append (y : BitVec 16) (m d : BitVec 8) :
    unpackDate (y ++ m ++ d) = { year := y.toNat, month := m.toNat, day := d.toNat } := by
  have hyear : (y ++ m ++ d).extractLsb' 16 16 = y := by
    rw [BitVec.extractLsb'_append_eq_of_le (by decide)]
    exact BitVec.extractLsb'_append_eq_left
  have hmonth : (y ++ m ++ d).extractLsb' 8 8 = m := by
    rw [BitVec.extractLsb'_append_eq_of_le (by decide)]
    exact BitVec.extractLsb'_append_eq_right
  have hday : (y ++ m ++ d).extractLsb' 0 8 = d := BitVec.extractLsb'_append_eq_right
  rw [unpackDate, hyear, hmonth, hday]

theorem unpackDate_packDate {d : Date} (hyear : 0 ≤ d.year ∧ d.year < 2 ^ 16) (hmonth : 0 ≤ d.month ∧ d.month < 2 ^ 8)
    (hday : 0 ≤ d.day ∧ d.day < 2 ^ 8) : unpackDate (packDate d) = d := by
  rw [packDate, unpackDate_append, toNat_ofInt_of_fits hyear.1 hyear.2, toNat_ofInt_of_fits hmonth.1 hmonth.2,
    toNat_ofInt_of_fits hday.1 hday.2]

/-- Settles O55: under legal parameters the year lies in 1..9999, and every month and day fits in a byte; the years with
no offset are those of the first and the last timestamp. -/
theorem packedDateLosesNothing : Obligations.PackedDateLosesNothing := by
  unfold Obligations.PackedDateLosesNothing
  refine ⟨fun p w hlegal => ?_, fun p w hoffset => ?_⟩
  · obtain ⟨hfirst, hlast⟩ := (legal_iff_year_range p).mp hlegal w
    obtain ⟨⟨hm0, hm1⟩, hd0, hd1⟩ := civilFromDays_month_day_range ((w.toNat + p.dateOffset) / 86400)
    rw [← dateOfTimestamp] at hm0 hm1 hd0 hd1
    exact unpackDate_packDate (by omega) (by omega) (by omega)
  · have hfirst : newYearsDay 1970 * 86400 = 0 := rfl
    have hafter : 4294967295 < newYearsDay 2107 * 86400 := by decide
    have hle := le_dateOfTimestamp_year_iff p w 1970
    have hlt := le_dateOfTimestamp_year_iff p w 2107
    have := w.isLt
    omega

end Sys2Proof.Machine
end

section
/-! Every command's answer (spec/60_exceptions.md R130, R132): one lemma for each way a command ends, one for each command
with more than one end, and the two statements about every command. -/

namespace Sys2Proof.Machine

/-- The host's side of the ports is the same in both states. -/
def SameHostSide (s u : State) : Prop :=
  u.completions = s.completions ∧ u.inbox = s.inbox ∧ u.resetDraws = s.resetDraws

/-- The second state has one more completion, with response 0 if it is a failure, and the same pending inputs. -/
def AnsweredOnce (s t : State) : Prop :=
  ∃ c : Completion, t.completions = s.completions ++ [c] ∧ (c.code ≠ .ok → c.resp = 0) ∧ t.inbox = s.inbox ∧
    t.resetDraws = s.resetDraws

/-- The outcome is a next state with one more completion. -/
def AnswersOnce (s : State) (r : Result) : Prop := ∃ t, r = .next t ∧ AnsweredOnce s t

/-! ### The ways a command ends -/

section
variable {s t u : State}

theorem SameHostSide.refl (s : State) : SameHostSide s s := ⟨rfl, rfl, rfl⟩

theorem answeredOnce_respond {k : Code} {resp : Word} (h : SameHostSide s u) (hk : k ≠ .ok → resp = 0) :
    AnsweredOnce s (respond k resp u) := by
  obtain ⟨hcompletions, hinbox, hdraws⟩ := h
  exact ⟨⟨k, resp⟩, by rw [respond_completions, hcompletions], hk, hinbox, hdraws⟩

theorem answeredOnce_complete (resp : Word) (h : SameHostSide s u) : AnsweredOnce s (complete resp u) :=
  answeredOnce_respond h (absurd rfl)

theorem answeredOnce_raise (w : Word) (k : Code) (h : SameHostSide s u) : AnsweredOnce s (raise w k u) :=
  answeredOnce_respond h fun _ => rfl

theorem answeredOnce_readByte (w : Word) (bytes : List Byte) (i : Nat) (s : State) :
    AnsweredOnce s (readByte w bytes i s) := by
  rcases readByte_cases w bytes i s with ⟨b, -, hread⟩ | ⟨-, hread⟩ <;> rw [hread]
  · exact answeredOnce_complete _ (.refl s)
  · exact answeredOnce_raise _ _ (.refl s)

theorem answeredOnce_needResult (w : Word) (h : AnsweredOnce s t) : AnsweredOnce s (needResult w s t) := by
  rcases needResult_cases w s t with ⟨-, hneed⟩ | ⟨-, hneed⟩ <;> rw [hneed]
  · exact answeredOnce_raise _ _ (.refl s)
  · exact h

theorem answeredOnce_failDecode (w : Word) (k : Code) (s : State) : AnsweredOnce s (failDecode w k s) :=
  answeredOnce_raise w k ⟨rfl, rfl, rfl⟩

theorem answeredOnce_finishNumeric (tag : ResTag) (word raw : Word) (s : State) :
    AnsweredOnce s (finishNumeric tag word raw s) :=
  answeredOnce_complete word ⟨rfl, rfl, rfl⟩

end

/-! ### The commands with more than one end -/

section
variable (s : State)

theorem execFrameBuild_answersOnce (a b c : Byte) : AnswersOnce s (execFrameBuild a b c s) := by
  unfold execFrameBuild
  split
  · exact ⟨_, rfl, answeredOnce_raise _ _ (.refl s)⟩
  · exact ⟨_, rfl, answeredOnce_complete _ ⟨rfl, rfl, rfl⟩⟩

theorem execFrameRead_answersOnce (c : Byte) : AnswersOnce s (execFrameRead c s) := by
  unfold execFrameRead
  split
  · exact ⟨_, rfl, answeredOnce_raise _ _ (.refl s)⟩
  · exact ⟨_, rfl, answeredOnce_readByte _ _ _ s⟩

theorem execRxPush_answersOnce (c : Byte) : AnswersOnce s (execRxPush c s) := by
  unfold execRxPush
  split
  · exact ⟨_, rfl, answeredOnce_complete _ ⟨rfl, rfl, rfl⟩⟩
  · exact ⟨_, rfl, answeredOnce_raise _ _ (.refl s)⟩

theorem execRxVerify_answersOnce : AnswersOnce s (execRxVerify s) := by
  unfold execRxVerify
  split
  · exact ⟨_, rfl, answeredOnce_raise _ _ ⟨rfl, rfl, rfl⟩⟩
  · exact ⟨_, rfl, answeredOnce_raise _ _ ⟨rfl, rfl, rfl⟩⟩
  · exact ⟨_, rfl, answeredOnce_complete _ ⟨rfl, rfl, rfl⟩⟩

theorem execPlRead_answersOnce (c : Byte) : AnswersOnce s (execPlRead c s) := by
  unfold execPlRead
  split
  · exact ⟨_, rfl, answeredOnce_raise _ _ (.refl s)⟩
  · exact ⟨_, rfl, answeredOnce_readByte _ _ _ s⟩

theorem execDecInt32_answersOnce : AnswersOnce s (execDecInt32 s) := by
  unfold execDecInt32
  split
  · exact ⟨_, rfl, answeredOnce_failDecode _ _ s⟩
  · exact ⟨_, rfl, answeredOnce_finishNumeric _ _ _ s⟩

theorem execDecFloat32_answersOnce : AnswersOnce s (execDecFloat32 s) := by
  unfold execDecFloat32
  split
  · exact ⟨_, rfl, answeredOnce_failDecode _ _ s⟩
  · exact ⟨_, rfl, answeredOnce_finishNumeric _ _ _ s⟩

theorem execDecString_answersOnce : AnswersOnce s (execDecString s) := by
  unfold execDecString
  split
  · exact ⟨_, rfl, answeredOnce_failDecode _ _ s⟩
  · split
    · exact ⟨_, rfl, answeredOnce_failDecode _ _ s⟩
    · exact ⟨_, rfl, answeredOnce_complete _ ⟨rfl, rfl, rfl⟩⟩

theorem execResRead_answersOnce (c : Byte) : AnswersOnce s (execResRead c s) := by
  unfold execResRead
  split
  · exact ⟨_, rfl, answeredOnce_raise _ _ (.refl s)⟩
  · exact ⟨_, rfl, answeredOnce_complete _ (.refl s)⟩
  · exact ⟨_, rfl, answeredOnce_needResult _ (answeredOnce_complete _ (.refl s))⟩
  · exact ⟨_, rfl, answeredOnce_needResult _ (answeredOnce_complete _ (.refl s))⟩
  · exact ⟨_, rfl, answeredOnce_needResult _ (answeredOnce_complete _ (.refl s))⟩
  · exact ⟨_, rfl, answeredOnce_needResult _ (answeredOnce_readByte _ _ _ s)⟩

theorem execErrRead_answersOnce (c : Byte) : AnswersOnce s (execErrRead c s) := by
  unfold execErrRead
  split
  · exact ⟨_, rfl, answeredOnce_respond (.refl s) fun _ => rfl⟩
  all_goals exact ⟨_, rfl, answeredOnce_respond (.refl s) (absurd rfl)⟩

/-- The one command that may be refused, and when. -/
theorem execDecDate_answersOnce_or_refused :
    AnswersOnce s (execDecDate s) ∨
    (s.params.legal = false ∧ execDecDate s = .refused .parametersOutsideConstraint) := by
  unfold execDecDate
  split
  · exact .inl ⟨_, rfl, answeredOnce_failDecode _ _ s⟩
  · split
    · exact .inl ⟨_, rfl, answeredOnce_finishNumeric _ _ _ s⟩
    · rename_i hillegal
      exact .inr ⟨eq_false_of_ne_true hillegal, rfl⟩

/-- Everything a command can answer: a next state with one completion, or the one refusal (R130, log entry 5). -/
theorem exec_answersOnce_or_refused (i : Instr) :
    AnswersOnce s (exec i s) ∨
    (i = .decDate ∧ s.params.legal = false ∧ exec i s = .refused .parametersOutsideConstraint) := by
  cases i with
  | nop => exact .inl ⟨_, rfl, answeredOnce_complete _ (.refl s)⟩
  | crcInit => exact .inl ⟨_, rfl, answeredOnce_complete _ ⟨rfl, rfl, rfl⟩⟩
  | crcByte c => exact .inl ⟨_, rfl, answeredOnce_complete _ ⟨rfl, rfl, rfl⟩⟩
  | crcRead => exact .inl ⟨_, rfl, answeredOnce_complete _ (.refl s)⟩
  | frameBuild a b c => exact .inl (execFrameBuild_answersOnce s a b c)
  | frameRead c => exact .inl (execFrameRead_answersOnce s c)
  | rxClear => exact .inl ⟨_, rfl, answeredOnce_complete _ ⟨rfl, rfl, rfl⟩⟩
  | rxPush c => exact .inl (execRxPush_answersOnce s c)
  | rxVerify => exact .inl (execRxVerify_answersOnce s)
  | rxRead c => exact .inl ⟨_, rfl, answeredOnce_readByte _ _ _ s⟩
  | plRead c => exact .inl (execPlRead_answersOnce s c)
  | decInt32 => exact .inl (execDecInt32_answersOnce s)
  | decFloat32 => exact .inl (execDecFloat32_answersOnce s)
  | decString => exact .inl (execDecString_answersOnce s)
  | decDate => exact (execDecDate_answersOnce_or_refused s).imp_right fun h => ⟨rfl, h⟩
  | resRead c => exact .inl (execResRead_answersOnce s c)
  | statusRead => exact .inl ⟨_, rfl, answeredOnce_respond (.refl s) (absurd rfl)⟩
  | errRead c => exact .inl (execErrRead_answersOnce s c)
  | errClear => exact .inl ⟨_, rfl, answeredOnce_complete _ ⟨rfl, rfl, rfl⟩⟩

end

/-- Settles O37: the only outcome that is no answer is the refusal, which legal parameters exclude. -/
theorem everyCommandAnswersOnce : Obligations.EveryCommandAnswersOnce := by
  unfold Obligations.EveryCommandAnswersOnce
  intro i s hlegal
  rcases exec_answersOnce_or_refused s i with ⟨t, hexec, c, hanswer⟩ | ⟨-, hillegal, -⟩
  · exact ⟨t, c, hexec, hanswer⟩
  · simp [hlegal] at hillegal

/-- The payloads that have a numeric word (R101): the converse of `numericWord_ok`. -/
theorem numericWord_of_payload {s : State} (hvalid : s.plValid = true) (hlen : 6 ≤ s.plLen.val)
    (hstrict : s.params.strictNumericLength = true → s.plLen.val = 6) :
    numericWord s = .ok (wordOfBytes s.rxBuf[2] s.rxBuf[3] s.rxBuf[4] s.rxBuf[5]) := by
  rw [numericWord, if_neg (by simp [hvalid]), if_neg (by omega), if_neg]
  rintro ⟨hs, hlong⟩
  exact absurd (hstrict hs) (by omega)

theorem execDecDate_refused {s : State} {w : Word} (hword : numericWord s = .ok w) (hillegal : s.params.legal = false) :
    execDecDate s = .refused .parametersOutsideConstraint := by
  simp [execDecDate, hword, hillegal]

/-- Settles O25: a refusal is no answer, so it is DEC_DATE's; the constraint is R14's years by
`legal_iff_year_range`. -/
theorem dateRefusedOnlyOutsideTheConstraint : Obligations.DateRefusedOnlyOutsideTheConstraint := by
  unfold Obligations.DateRefusedOnlyOutsideTheConstraint
  refine ⟨fun s hillegal hvalid hlen hstrict => ?_, fun i s r hrefused => ?_, fun _ => legal_of_offsets_le,
    legal_iff_year_range⟩
  · exact execDecDate_refused (numericWord_of_payload hvalid hlen hstrict) hillegal
  · rcases exec_answersOnce_or_refused s i with ⟨t, hexec, -⟩ | ⟨hcommand, hillegal, hexec⟩ <;>
      cases hexec.symm.trans hrefused
    exact ⟨hcommand, hillegal, rfl⟩

end Sys2Proof.Machine
end

section
/-! What a command can write and how it ends (spec/60_exceptions.md R133), said once for every command. -/

namespace Sys2Proof.Machine

open Sys2Proof.Safety

/-- What a command on the state `s`, completing with a code, writes before the status registers are written: nothing,
what its own rule says of a success, or one of the three writes of a failure (RX_VERIFY's two and a decode's clearing). -/
inductive Writes (s : State) : Code → Instr → State → Prop where
  | nothing (k : Code) (i : Instr) : Writes s k i s
  | crcInit : Writes s .ok .crcInit { s with crcAcc := Config.crcInit }
  | crcByte (c : Byte) : Writes s .ok (.crcByte c) { s with crcAcc := crcByte s.crcAcc c }
  | frameBuild (a b c : Byte) (haddr : a.toNat ≤ s.params.addrMax.toNat) :
      Writes s .ok (.frameBuild a b c) { s with txFrame := buildFrame a b c, txValid := true }
  | rxClear : Writes s .ok .rxClear (invalidatePayload { s with rxLen := 0 })
  | rxPush (c : Byte) (hroom : s.rxLen.val < 16) :
      Writes s .ok (.rxPush c)
        (invalidatePayload
          { s with rxBuf := s.rxBuf.set s.rxLen.val c hroom, rxLen := ⟨s.rxLen.val + 1, by omega⟩ })
  | rxVerify (p : List Byte) (hchecked : stripAndVerify (rxBytes s) = .payload p) :
      Writes s .ok .rxVerify { s with plValid := true, plLen := strippedLength s.rxLen }
  | rxShort : Writes s .framingShort .rxVerify (invalidatePayload s)
  | rxMismatch (calcCrc recvCrc : Half) :
      Writes s .framingMismatch .rxVerify
        { invalidatePayload s with errCrcCalc := calcCrc, errCrcRecv := recvCrc }
  | cleared {k : Code} {i : Instr} (hdecode : isDecode i = true) : Writes s k i (clearResult s)
  | int32 (w : Word) : Writes s .ok .decInt32 (writeResult .int32 w w emptyString 0 s)
  | float32 (w : Word) : Writes s .ok .decFloat32 (writeResult .float32 w w emptyString 0 s)
  | string (n : Fin 13) : Writes s .ok .decString (writeResult .string 0 0 (stringField s.rxBuf n) n s)
  | date (w : Word) :
      Writes s .ok .decDate (writeResult .date (packDate (dateOfTimestamp s.params w)) w emptyString 0 s)
  | errClear :
      Writes s .ok .errClear
        { s with sticky := false, errCause := .ok, errCmd := 0, errCrcCalc := 0, errCrcRecv := 0 }

/-- The three ways a command ends: a status-neutral one answers and writes nothing, any other completes with OK or fails
(R133). -/
inductive Ends (i : Instr) (s : State) : State → Prop where
  | answer (hneutral : statusNeutral i = true) (k : Code) (resp : Word) : Ends i s (respond k resp s)
  | success (hstatus : statusNeutral i = false) {u : State} (hwrites : Writes s .ok i u) (resp : Word) :
      Ends i s (complete resp u)
  | failure (hstatus : statusNeutral i = false) {k : Code} {u : State} (hwrites : Writes s k i u) (hk : k ≠ .ok) :
      Ends i s (raise (encode i) k u)

section
variable {i : Instr} {s t : State}

/-! ### The ways a command ends -/

theorem ends_complete (hstatus : statusNeutral i = false) (resp : Word) (s : State) : Ends i s (complete resp s) :=
  .success hstatus (.nothing _ i) resp

theorem ends_raise (hstatus : statusNeutral i = false) {k : Code} (hk : k ≠ .ok) (s : State) :
    Ends i s (raise (encode i) k s) :=
  .failure hstatus (.nothing k i) hk

theorem ends_readByte (hstatus : statusNeutral i = false) (bytes : List Byte) (n : Nat) (s : State) :
    Ends i s (readByte (encode i) bytes n s) := by
  rcases readByte_cases (encode i) bytes n s with ⟨b, -, hread⟩ | ⟨-, hread⟩ <;> rw [hread]
  · exact ends_complete hstatus _ s
  · exact ends_raise hstatus (by decide) s

theorem ends_needResult (hstatus : statusNeutral i = false) (h : Ends i s t) :
    Ends i s (needResult (encode i) s t) := by
  rcases needResult_cases (encode i) s t with ⟨-, hneed⟩ | ⟨-, hneed⟩ <;> rw [hneed]
  · exact ends_raise hstatus (by decide) s
  · exact h

theorem statusNeutral_of_isDecode (hdecode : isDecode i = true) : statusNeutral i = false := by
  cases i <;> simp_all [isDecode, statusNeutral]

theorem ends_failDecode (hdecode : isDecode i = true) {k : Code} (hk : k ≠ .ok) (s : State) :
    Ends i s (failDecode (encode i) k s) :=
  .failure (statusNeutral_of_isDecode hdecode) (.cleared hdecode) hk

theorem numericWord_error_ne_ok {k : Code} (h : numericWord s = .error k) : k ≠ .ok := by
  rcases numericWord_error h with ⟨rfl, -⟩ | ⟨rfl, -⟩ | ⟨rfl, -⟩ <;> decide

/-! ### The commands with more than one end -/

theorem execFrameBuild_ends {a b c : Byte} (h : execFrameBuild a b c s = .next t) : Ends (.frameBuild a b c) s t := by
  unfold execFrameBuild at h
  split at h <;> cases h
  · exact ends_raise rfl (by decide) s
  · exact .success rfl (.frameBuild a b c (by omega)) _

theorem execFrameRead_ends {c : Byte} (h : execFrameRead c s = .next t) : Ends (.frameRead c) s t := by
  unfold execFrameRead at h
  split at h <;> cases h
  · exact ends_raise rfl (by decide) s
  · exact ends_readByte rfl _ _ s

theorem execRxPush_ends {c : Byte} (h : execRxPush c s = .next t) : Ends (.rxPush c) s t := by
  unfold execRxPush at h
  split at h <;> cases h
  · exact .success rfl (.rxPush c ‹_›) _
  · exact ends_raise rfl (by decide) s

theorem execRxVerify_ends (h : execRxVerify s = .next t) : Ends .rxVerify s t := by
  unfold execRxVerify at h
  split at h <;> cases h
  · exact .failure rfl .rxShort (by decide)
  · exact .failure rfl (.rxMismatch _ _) (by decide)
  · exact .success rfl (.rxVerify _ ‹_›) _

theorem execPlRead_ends {c : Byte} (h : execPlRead c s = .next t) : Ends (.plRead c) s t := by
  unfold execPlRead at h
  split at h <;> cases h
  · exact ends_raise rfl (by decide) s
  · exact ends_readByte rfl _ _ s

theorem execDecInt32_ends (h : execDecInt32 s = .next t) : Ends .decInt32 s t := by
  unfold execDecInt32 at h
  split at h <;> cases h
  · exact ends_failDecode rfl (numericWord_error_ne_ok ‹_›) s
  · exact .success rfl (.int32 _) _

theorem execDecFloat32_ends (h : execDecFloat32 s = .next t) : Ends .decFloat32 s t := by
  unfold execDecFloat32 at h
  split at h <;> cases h
  · exact ends_failDecode rfl (numericWord_error_ne_ok ‹_›) s
  · exact .success rfl (.float32 _) _

theorem execDecString_ends (h : execDecString s = .next t) : Ends .decString s t := by
  unfold execDecString at h
  split at h
  · cases h
    exact ends_failDecode rfl (by decide) s
  · split at h <;> cases h
    · exact ends_failDecode rfl (by decide) s
    · exact .success rfl (.string _) _

theorem execDecDate_ends (h : execDecDate s = .next t) : Ends .decDate s t := by
  unfold execDecDate at h
  split at h
  · cases h
    exact ends_failDecode rfl (numericWord_error_ne_ok ‹_›) s
  · split at h <;> cases h
    exact .success rfl (.date _) _

theorem execResRead_ends {c : Byte} (h : execResRead c s = .next t) : Ends (.resRead c) s t := by
  unfold execResRead at h
  split at h <;> cases h
  · exact ends_raise rfl (by decide) s
  · exact ends_complete rfl _ s
  · exact ends_needResult rfl (ends_complete rfl _ s)
  · exact ends_needResult rfl (ends_complete rfl _ s)
  · exact ends_needResult rfl (ends_complete rfl _ s)
  · exact ends_needResult rfl (ends_readByte rfl _ _ s)

theorem execErrRead_ends {c : Byte} (h : execErrRead c s = .next t) : Ends (.errRead c) s t := by
  unfold execErrRead at h
  split at h <;> cases h <;> exact .answer rfl _ _

/-- Everything a command can do. -/
theorem exec_ends (h : exec i s = .next t) : Ends i s t := by
  cases i with
  | nop => cases h; exact ends_complete rfl _ s
  | crcInit => cases h; exact .success rfl .crcInit _
  | crcByte c => cases h; exact .success rfl (.crcByte c) _
  | crcRead => cases h; exact ends_complete rfl _ s
  | frameBuild a b c => exact execFrameBuild_ends h
  | frameRead c => exact execFrameRead_ends h
  | rxClear => cases h; exact .success rfl .rxClear _
  | rxPush c => exact execRxPush_ends h
  | rxVerify => exact execRxVerify_ends h
  | rxRead c => cases h; exact ends_readByte rfl _ _ s
  | plRead c => exact execPlRead_ends h
  | decInt32 => exact execDecInt32_ends h
  | decFloat32 => exact execDecFloat32_ends h
  | decString => exact execDecString_ends h
  | decDate => exact execDecDate_ends h
  | resRead c => exact execResRead_ends h
  | statusRead => cases h; exact .answer rfl _ _
  | errRead c => exact execErrRead_ends h
  | errClear => cases h; exact .success rfl .errClear _

end

end Sys2Proof.Machine
end

section
/-! A word that decodes is the word of its command (spec/30_encoding.md R62, R65), so an input says which command it is. -/

namespace Sys2Proof

/-- The word of a format's fields: the must-be-zero fields are zero (R62). -/
def Format.pack : Format → Byte → Byte → Byte → Byte → Word
  | .z, op, _, _, _ => packWord op 0 0 0
  | .c8, op, _, _, c => packWord op 0 0 c
  | .abc, op, a, b, c => packWord op a b c

/-- A byte that a format says must be zero is zero in a word that passes the format's check (R66). -/
theorem extractLsb'_eq_zero_of_wellFormed {f : Format} {w : Word} (h : f.wellFormed w = true) {start : Nat}
    (hbits : ∀ i < 8, f.mustBeZero.getLsbD (start + i) = true) : w.extractLsb' start 8 = 0 := by
  refine BitVec.eq_of_getLsbD_eq fun i hi => ?_
  have hbit := congrArg (·.getLsbD (start + i)) (beq_iff_eq.mp h)
  simpa [hi, hbits i hi] using hbit

theorem pack_fields_of_wellFormed {f : Format} {w : Word} (h : f.wellFormed w = true) :
    f.pack (opField w) (fieldA w) (fieldB w) (fieldC w) = w := by
  rw [← packWord_fields w]
  cases f with
  | z =>
    have ha : fieldA w = 0 := extractLsb'_eq_zero_of_wellFormed h (by decide)
    have hb : fieldB w = 0 := extractLsb'_eq_zero_of_wellFormed h (by decide)
    have hc : fieldC w = 0 := extractLsb'_eq_zero_of_wellFormed h (by decide)
    simp [Format.pack, ha, hb, hc]
  | c8 =>
    have ha : fieldA w = 0 := extractLsb'_eq_zero_of_wellFormed h (by decide)
    have hb : fieldB w = 0 := extractLsb'_eq_zero_of_wellFormed h (by decide)
    simp [Format.pack, ha, hb]
  | abc => simp [Format.pack]

/-- The encoder agrees with every row of the opcode map (R64). -/
theorem encode_build : ∀ r ∈ opcodeMap, ∀ a b c, encode (r.build a b c) = r.format.pack r.op a b c := by
  simp [opcodeMap, encode, Format.pack]

theorem encode_of_decode {w : Word} {i : Instr} (h : decode w = .ok i) : encode i = w := by
  unfold decode at h
  split at h
  · cases h
  · rename_i r hfind
    split at h <;> cases h
    rename_i hwell
    have hop : r.op = opField w := by simpa using List.find?_some hfind
    rw [encode_build r (List.mem_of_find?_eq_some hfind), hop, pack_fields_of_wellFormed hwell]

end Sys2Proof
end

section
/-! The invariants of spec/10_state.md: what a step can do, and the induction that makes a predicate kept by every command,
the ILLEGAL failure and reset one that every step keeps. -/

namespace Sys2Proof.Machine

open Sys2Proof.Safety

/-- `t` is `u` but for the status registers and the host's side of the ports: what the end of a command may change. -/
def SameData (u t : State) : Prop :=
  t = { u with
    lastCode := t.lastCode, sticky := t.sticky, errCause := t.errCause, errCmd := t.errCmd
    inbox := t.inbox, completions := t.completions, resetDraws := t.resetDraws }

/-- `t` is `u` but for the host's side of the ports: the same registers and parameters. -/
def SameRegisters (u t : State) : Prop :=
  t = { u with inbox := t.inbox, completions := t.completions, resetDraws := t.resetDraws }

section
variable {k : Code} {i : Instr} {s t u : State}

theorem SameRegisters.sameData (h : SameRegisters u t) : SameData u t := by
  unfold SameData
  rw [h]

theorem sameRegisters_inbox (s : State) (rest : List Input) : SameRegisters s { s with inbox := rest } := rfl

theorem sameRegisters_applyReset (hparams : u.params = s.params) : SameRegisters (applyReset s) (applyReset u) := by
  simp [SameRegisters, applyReset, hparams]

theorem Writes.params (h : Writes s k i u) : u.params = s.params := by
  cases h <;> rfl

/-- Every end of a command leaves the data registers as the command wrote them. -/
theorem Ends.data (h : Ends i s t) : ∃ k u, Writes s k i u ∧ SameData u t := by
  cases h with
  | answer _ k resp => exact ⟨k, s, .nothing k i, rfl⟩
  | success _ hwrites resp => exact ⟨_, _, hwrites, rfl⟩
  | failure _ hwrites _ => exact ⟨_, _, hwrites, rfl⟩

theorem Ends.params (h : Ends i s t) : t.params = s.params := by
  obtain ⟨k, u, hwrites, hsame⟩ := h.data
  rw [hsame]
  exact hwrites.params

/-- Everything a command word can do: its command's end, or the ILLEGAL failure. -/
theorem runWord_ends {w : Word} (h : runWord w s = .next t) :
    (∃ i, w = encode i ∧ Ends i s t) ∨ t = raise w .illegalCommand s := by
  rcases runWord_cases w s with ⟨i, hdecode, hrun⟩ | ⟨e, -, hrun⟩ <;> rw [hrun] at h
  · exact .inl ⟨i, (encode_of_decode hdecode).symm, exec_ends h⟩
  · cases h
    exact .inr rfl

theorem runWord_params {w : Word} (h : runWord w s = .next t) : t.params = s.params := by
  rcases runWord_ends h with ⟨i, -, hends⟩ | rfl
  · exact hends.params
  · rfl

/-- Everything a step can do, by the input it takes (R145, R146, R150). -/
theorem step_cases (h : step s = .next t) :
    t = s ∨
    (∃ i rest, s.inbox = .command (encode i) :: rest ∧ Ends i { s with inbox := rest } t) ∨
    (∃ w rest, s.inbox = .command w :: rest ∧ t = raise w .illegalCommand { s with inbox := rest }) ∨
    (∃ x rest, s.inbox = x :: rest ∧ (x = .reset ∨ ∃ w, x = .resetDuring w) ∧ SameRegisters (applyReset s) t) := by
  rcases takeInput_cases s with
    ⟨-, htake⟩ | ⟨w, rest, hinbox, htake⟩ | ⟨rest, hinbox, htake⟩ | ⟨w, rest, hinbox, htake⟩ <;> rw [step, htake] at h
  · cases h
    exact .inl rfl
  · rcases runWord_ends h with ⟨i, rfl, hends⟩ | hillegal
    · exact .inr (.inl ⟨i, rest, hinbox, hends⟩)
    · exact .inr (.inr (.inl ⟨w, rest, hinbox, hillegal⟩))
  · cases h
    exact .inr (.inr (.inr ⟨_, rest, hinbox, .inl rfl, sameRegisters_applyReset rfl⟩))
  · refine .inr (.inr (.inr ⟨_, rest, hinbox, .inr ⟨w, rfl⟩, ?_⟩))
    rcases resetDuring_next h with rfl | ⟨u, hrun, rfl⟩
    · exact sameRegisters_applyReset rfl
    · have hparams := runWord_params hrun
      exact sameRegisters_applyReset hparams

end

section
variable {P : State → Prop} {s t : State}

/-- A predicate about the registers and parameters that every command, the ILLEGAL failure and reset keep is kept by every
step. -/
theorem step_keeps (hregisters : ∀ u t, SameRegisters u t → P u → P t) (hcommand : ∀ i s t, P s → Ends i s t → P t)
    (hillegal : ∀ w s, P s → P (raise w .illegalCommand s)) (hreset : ∀ s, P s → P (applyReset s))
    (hs : P s) (h : step s = .next t) : P t := by
  rcases step_cases h with rfl | ⟨i, rest, -, hends⟩ | ⟨w, rest, -, rfl⟩ | ⟨x, rest, -, -, hsame⟩
  · exact hs
  · exact hcommand i _ t (hregisters s _ (sameRegisters_inbox s rest) hs) hends
  · exact hillegal w _ (hregisters s _ (sameRegisters_inbox s rest) hs)
  · exact hregisters _ _ hsame (hreset s hs)

/-- A predicate about the data registers and parameters need only be kept by what commands write. -/
theorem step_keeps_data (hdata : ∀ u t, SameData u t → P u → P t)
    (hwrites : ∀ s k i u, P s → Writes s k i u → P u) (hreset : ∀ s, P s → P (applyReset s))
    (hs : P s) (h : step s = .next t) : P t := by
  refine step_keeps (fun u t hsame => hdata u t hsame.sameData) (fun i s t hs hends => ?_) (fun _ s => hdata s _ rfl)
    hreset hs h
  obtain ⟨k, u, hw, hsame⟩ := hends.data
  exact hdata u t hsame (hwrites s k i u hs hw)

end

/-- Settles O46: nothing a command writes is a parameter. -/
theorem stepKeepsTheParameters : Obligations.StepKeepsTheParameters := by
  unfold Obligations.StepKeepsTheParameters
  intro s t h
  rcases step_cases h with rfl | ⟨i, rest, -, hends⟩ | ⟨w, rest, -, rfl⟩ | ⟨x, rest, -, -, hsame⟩
  · rfl
  · exact hends.params
  · rfl
  · rw [hsame]
    rfl

end Sys2Proof.Machine
end

section
/-! The payload registers: a valid payload is the response less a trailer that is its CRC (spec/10_state.md R27, R28). -/

namespace Sys2Proof.Machine

open Sys2Proof.Safety

section
variable {s : State}

theorem payloadInv_of_invalid (hvalid : s.plValid = false) (hlen : s.plLen = 0) : PayloadInv s :=
  ⟨fun h => by simp [hvalid] at h, fun _ => hlen⟩

/-- The bytes of a trailer's CRC are the trailer. -/
theorem trailerOf_halfOfTrailer (first second : Byte) : trailerOf (halfOfTrailer first second) = [first, second] := by
  rw [trailerOf, halfOfTrailer, BitVec.extractLsb'_append_eq_right, BitVec.extractLsb'_append_eq_left]

/-- A response that passes the check is a payload and the trailer of its CRC (R86). -/
theorem eq_append_trailerOf {l p : List Byte} (h : stripAndVerify l = .payload p) : l = p ++ trailerOf (crc16 p) := by
  rcases stripAndVerify_cases l with ⟨-, hshort⟩ | ⟨q, first, second, rfl, ⟨hcrc, hpayload⟩ | ⟨-, hmismatch⟩⟩
  · cases hshort.symm.trans h
  · cases hpayload.symm.trans h
    rw [hcrc, trailerOf_halfOfTrailer]
  · cases hmismatch.symm.trans h

/-- The payload view that RX_VERIFY opens is the payload that was checked. -/
theorem take_strippedLength {p : List Byte} (h : stripAndVerify (rxBytes s) = .payload p) :
    s.rxBuf.toList.take (strippedLength s.rxLen).val = p := by
  have hbytes := eq_append_trailerOf h
  have hlen : s.rxLen.val = p.length + 2 := by
    rw [← length_rxBytes s, hbytes, List.length_append]
    rfl
  calc s.rxBuf.toList.take (strippedLength s.rxLen).val
      = (rxBytes s).take p.length := by simp [rxBytes, strippedLength, List.take_take, hlen]
    _ = p := by rw [hbytes, List.take_left]

theorem payloadInv_rxVerify {p : List Byte} (h : stripAndVerify (rxBytes s) = .payload p) :
    PayloadInv { s with plValid := true, plLen := strippedLength s.rxLen } := by
  refine ⟨fun _ => ?_, fun hvalid => by cases hvalid⟩
  rw [take_strippedLength h]
  exact eq_append_trailerOf h

theorem payloadInv_writes {k : Code} {i : Instr} {u : State} (h : PayloadInv s) (hw : Writes s k i u) : PayloadInv u := by
  cases hw with
  | rxVerify p hchecked => exact payloadInv_rxVerify hchecked
  | rxClear => exact payloadInv_of_invalid rfl rfl
  | rxPush c hroom => exact payloadInv_of_invalid rfl rfl
  | rxShort => exact payloadInv_of_invalid rfl rfl
  | rxMismatch calcCrc recvCrc => exact payloadInv_of_invalid rfl rfl
  | _ => exact h

theorem payloadInv_applyReset (s : State) : PayloadInv (applyReset s) := payloadInv_of_invalid rfl rfl

end

/-- Settles O42: only RX_VERIFY makes a payload valid, and only after the check. -/
theorem stepKeepsThePayloadChecked : Obligations.StepKeepsThePayloadChecked := by
  unfold Obligations.StepKeepsThePayloadChecked
  intro s t hs h
  refine step_keeps_data (fun u t hsame hu => ?_) (fun _ _ _ _ => payloadInv_writes)
    (fun s _ => payloadInv_applyReset s) hs h
  rw [hsame]
  exact hu

end Sys2Proof.Machine
end

section
/-! The result registers are as their tag says (spec/10_state.md R30). -/

namespace Sys2Proof.Machine

open Sys2Proof.Safety

section
variable {s : State}

/-- The fill after the string (R106). -/
theorem stringField_getElem_of_le (buf : Vector Byte 16) {n : Fin 13} {i : Fin 12} (h : n.val ≤ i.val) :
    (stringField buf n)[i] = 0 := by
  simp [stringField, Nat.not_lt.mpr h]

/-- With no string, R30's row for a tag is what it says of the two words. -/
theorem resultInv_of_emptyString (hstr : s.resStr = emptyString) (hslen : s.resSlen = 0) (htag : s.resTag ≠ .string)
    (hnone : s.resTag = .none → s.resWord = 0 ∧ s.resRaw = 0)
    (hnumber : s.resTag = .int32 ∨ s.resTag = .float32 → s.resRaw = s.resWord)
    (hdate : s.resTag = .date → s.resWord = packDate (dateOfTimestamp s.params s.resRaw)) : ResultInv s :=
  ⟨hnone, hnumber, fun h => absurd h htag, hdate, fun _ => hslen, fun i _ => by simp [hstr, emptyString]⟩

theorem resultInv_of_none (hstr : s.resStr = emptyString) (hslen : s.resSlen = 0) (htag : s.resTag = .none)
    (hword : s.resWord = 0) (hraw : s.resRaw = 0) : ResultInv s :=
  resultInv_of_emptyString hstr hslen (by simp [htag]) (fun _ => ⟨hword, hraw⟩) (by simp [htag]) (by simp [htag])

theorem resultInv_string (n : Fin 13) (s : State) :
    ResultInv (writeResult .string 0 0 (stringField s.rxBuf n) n s) :=
  ⟨fun _ => ⟨rfl, rfl⟩, fun _ => rfl, fun _ => ⟨rfl, rfl⟩, (nomatch ·), (absurd rfl ·),
    fun _ => stringField_getElem_of_le s.rxBuf⟩

theorem resultInv_writes {k : Code} {i : Instr} {u : State} (h : ResultInv s) (hw : Writes s k i u) : ResultInv u := by
  cases hw with
  | cleared hdecode => exact resultInv_of_none rfl rfl rfl rfl rfl
  | int32 w => exact resultInv_of_emptyString rfl rfl (by simp) (by simp) (fun _ => rfl) (by simp)
  | float32 w => exact resultInv_of_emptyString rfl rfl (by simp) (by simp) (fun _ => rfl) (by simp)
  | string n => exact resultInv_string n s
  | date w => exact resultInv_of_emptyString rfl rfl (by simp) (by simp) (by simp) (fun _ => rfl)
  | _ => exact h

theorem resultInv_applyReset (s : State) : ResultInv (applyReset s) := resultInv_of_none rfl rfl rfl rfl rfl

end

/-- Settles O43: each decode writes all five fields, as R30's row for its tag says or as the row of no result. -/
theorem stepKeepsTheResultTyped : Obligations.StepKeepsTheResultTyped := by
  unfold Obligations.StepKeepsTheResultTyped
  intro s t hs h
  refine step_keeps_data (fun u t hsame hu => ?_) (fun _ _ _ _ => resultInv_writes)
    (fun s _ => resultInv_applyReset s) hs h
  rw [hsame]
  exact hu

end Sys2Proof.Machine
end

section
/-! The frame buffer has the frame's shape (spec/10_state.md R25, spec/41_frame.md R80). -/

namespace Sys2Proof.Machine

open Sys2Proof.Safety

section
variable {s : State}

/-- The bytes no operand reaches (R82). -/
theorem buildFrame_getElem_of_fixed (a b c : Byte) (i : Fin 10) (h3 : 3 ≤ i.val) (h7 : i.val ≤ 7) :
    (buildFrame a b c)[i] = 0 := by
  obtain ⟨i, hi⟩ := i
  interval_cases i <;> rfl

theorem frameInv_frameBuild {a : Byte} (haddr : a.toNat ≤ s.params.addrMax.toNat) (b c : Byte) :
    FrameInv { s with txFrame := buildFrame a b c, txValid := true } :=
  ⟨fun _ => ⟨buildFrame_getElem_of_fixed a b c, haddr, rfl⟩, (nomatch ·)⟩

theorem frameInv_writes {k : Code} {i : Instr} {u : State} (h : FrameInv s) (hw : Writes s k i u) : FrameInv u := by
  cases hw with
  | frameBuild a b c haddr => exact frameInv_frameBuild haddr b c
  | _ => exact h

theorem frameInv_applyReset (s : State) : FrameInv (applyReset s) := ⟨(nomatch ·), fun _ => rfl⟩

end

/-- Settles O44: only FRAME_BUILD writes the frame, with an address it has checked. -/
theorem stepKeepsTheFrameShaped : Obligations.StepKeepsTheFrameShaped := by
  unfold Obligations.StepKeepsTheFrameShaped
  intro s t hs h
  refine step_keeps_data (fun u t hsame hu => ?_) (fun _ _ _ _ => frameInv_writes)
    (fun s _ => frameInv_applyReset s) hs h
  rw [hsame]
  exact hu

end Sys2Proof.Machine
end

section
/-! The error registers are consistent (spec/10_state.md R31 to R34), and the invariants hold after reset (R28, R150). -/

namespace Sys2Proof.Machine

open Sys2Proof.Safety

section
variable {i : Instr} {s t : State}

/-- A failure records itself, whatever was recorded before it (R133). -/
theorem errorInv_raise (w : Word) {k : Code} (hk : k ≠ .ok) (s : State) : ErrorInv (raise w k s) :=
  ⟨⟨fun _ => hk, fun _ => rfl⟩, fun _ => rfl, (nomatch ·)⟩

theorem errorInv_complete (h : ErrorInv s) (resp : Word) : ErrorInv (complete resp s) := by
  obtain ⟨hsticky, -, hzero⟩ := h
  exact ⟨hsticky, (absurd rfl ·), hzero⟩

/-- ERR_CLEAR leaves nothing recorded (R122). -/
theorem errorInv_errClear (s : State) (resp : Word) :
    ErrorInv (complete resp
      { s with sticky := false, errCause := .ok, errCmd := 0, errCrcCalc := 0, errCrcRecv := 0 }) :=
  ⟨⟨(nomatch ·), (absurd rfl ·)⟩, (absurd rfl ·), fun _ => ⟨rfl, rfl, rfl⟩⟩

theorem errorInv_ends (h : ErrorInv s) (hends : Ends i s t) : ErrorInv t := by
  cases hends with
  | answer _ k resp => exact h
  | failure _ _ hk => exact errorInv_raise _ hk _
  | success _ hwrites resp =>
    cases hwrites with
    | errClear => exact errorInv_errClear s resp
    | _ => exact errorInv_complete h resp

theorem errorInv_applyReset (s : State) : ErrorInv (applyReset s) :=
  ⟨⟨(nomatch ·), (absurd rfl ·)⟩, (absurd rfl ·), fun _ => ⟨rfl, rfl, rfl⟩⟩

end

/-- Settles O45: a success writes no error register, unless it is ERR_CLEAR's, and a failure records itself. -/
theorem stepKeepsTheErrorRecord : Obligations.StepKeepsTheErrorRecord := by
  unfold Obligations.StepKeepsTheErrorRecord
  intro s t hs h
  refine step_keeps (fun u t hsame hu => ?_) (fun _ _ _ => errorInv_ends)
    (fun w s _ => errorInv_raise w (by decide) s) (fun s _ => errorInv_applyReset s) hs h
  rw [hsame]
  exact hu

/-- Settles O47: the reset state is the state a reset leaves. -/
theorem resetMeetsTheInvariants : Obligations.ResetMeetsTheInvariants := by
  unfold Obligations.ResetMeetsTheInvariants
  exact ⟨payloadInv_applyReset .reset, resultInv_applyReset .reset, frameInv_applyReset .reset,
    errorInv_applyReset .reset, by decide⟩

end Sys2Proof.Machine
end

section
/-! Which command writes which register: R21's column "written by", and the registers that only one kind of input clears
or changes (spec/10_state.md R21, R30, R32). -/

namespace Sys2Proof.Machine

open Sys2Proof.Safety

section
variable {k : Code} {i : Instr} {s t u : State}

/-! ### What a command writes before its end -/

theorem Writes.crcAcc (h : Writes s k i u) (hne : u.crcAcc ≠ s.crcAcc) : i = .crcInit ∨ ∃ c, i = .crcByte c := by
  cases h with
  | crcInit => exact .inl rfl
  | crcByte c => exact .inr ⟨c, rfl⟩
  | _ => exact absurd rfl hne

theorem Writes.txFrame (h : Writes s k i u) (hne : u.txFrame ≠ s.txFrame ∨ u.txValid ≠ s.txValid) :
    ∃ a b c, i = .frameBuild a b c := by
  cases h with
  | frameBuild a b c haddr => exact ⟨a, b, c, rfl⟩
  | _ => simp at hne

theorem Writes.rxBuf (h : Writes s k i u) (hne : u.rxBuf ≠ s.rxBuf) : ∃ c, i = .rxPush c := by
  cases h with
  | rxPush c hroom => exact ⟨c, rfl⟩
  | _ => exact absurd rfl hne

theorem Writes.rxLen (h : Writes s k i u) (hne : u.rxLen ≠ s.rxLen) :
    (i = .rxClear ∧ u.rxLen = 0) ∨ ∃ c, i = .rxPush c := by
  cases h with
  | rxClear => exact .inl ⟨rfl, rfl⟩
  | rxPush c hroom => exact .inr ⟨c, rfl⟩
  | _ => exact absurd rfl hne

theorem Writes.payload (h : Writes s k i u) (hne : u.plValid ≠ s.plValid ∨ u.plLen ≠ s.plLen) :
    i = .rxClear ∨ i = .rxVerify ∨ ∃ c, i = .rxPush c := by
  cases h with
  | rxClear => exact .inl rfl
  | rxVerify p hchecked => exact .inr (.inl rfl)
  | rxShort => exact .inr (.inl rfl)
  | rxMismatch calcCrc recvCrc => exact .inr (.inl rfl)
  | rxPush c hroom => exact .inr (.inr ⟨c, rfl⟩)
  | _ => simp at hne

theorem SameResult.refl (s : State) : SameResult s s := ⟨rfl, rfl, rfl, rfl, rfl⟩

theorem Writes.result (h : Writes s k i u) (hne : ¬ SameResult s u) : isDecode i = true := by
  cases h with
  | cleared hdecode => exact hdecode
  | int32 w => rfl
  | float32 w => rfl
  | string n => rfl
  | date w => rfl
  | _ => exact absurd (SameResult.refl s) hne

theorem Writes.errCrc (h : Writes s k i u) (hne : u.errCrcCalc ≠ s.errCrcCalc ∨ u.errCrcRecv ≠ s.errCrcRecv) :
    i = .rxVerify ∨ i = .errClear := by
  cases h with
  | rxMismatch calcCrc recvCrc => exact .inl rfl
  | errClear => exact .inr rfl
  | _ => simp at hne

theorem Writes.errRecord (h : Writes s k i u) :
    i = .errClear ∨ (u.sticky = s.sticky ∧ u.errCause = s.errCause ∧ u.errCmd = s.errCmd) := by
  cases h with
  | errClear => exact .inl rfl
  | _ => exact .inr ⟨rfl, rfl, rfl⟩

/-! ### The status registers, which the end writes -/

theorem ne_of_statusNeutral_eq_false (h : statusNeutral i = false) : i ≠ .statusRead ∧ ∀ c, i ≠ .errRead c := by
  refine ⟨?_, fun c => ?_⟩ <;> rintro rfl <;> cases h

theorem Ends.lastCode (h : Ends i s t) (hne : t.lastCode ≠ s.lastCode) : statusNeutral i = false := by
  cases h with
  | answer _ k resp => exact absurd rfl hne
  | success hstatus _ _ => exact hstatus
  | failure hstatus _ _ => exact hstatus

/-- STICKY, ERR_CAUSE and ERR_CMD are ERR_CLEAR's and a failure's. -/
theorem Ends.errRecord (h : Ends i s t) :
    i = .errClear ∨ (t.lastCode ≠ .ok ∧ t.sticky = true ∧ statusNeutral i = false) ∨
      (t.sticky = s.sticky ∧ t.errCause = s.errCause ∧ t.errCmd = s.errCmd) := by
  cases h with
  | answer _ k resp => exact .inr (.inr ⟨rfl, rfl, rfl⟩)
  | success _ hwrites resp => exact hwrites.errRecord.imp_right .inr
  | failure hstatus _ hk => exact .inr (.inl ⟨hk, rfl, hstatus⟩)

theorem Ends.result (h : Ends i s t) (hne : ¬ SameResult s t) : isDecode i = true := by
  obtain ⟨k, u, hwrites, hsame⟩ := h.data
  rw [hsame] at hne
  exact hwrites.result hne

theorem mem_decodes_of_isDecode (h : isDecode i = true) : i ∈ [.decInt32, .decFloat32, .decString, .decDate] := by
  cases i <;> simp_all [isDecode]

end

/-- Settles O38, register by register: `Writes` says it of the data registers, `Ends` of the status registers. -/
theorem onlyTheListedCommandsWrite : Obligations.OnlyTheListedCommandsWrite := by
  unfold Obligations.OnlyTheListedCommandsWrite
  intro i s t h
  have hends := exec_ends h
  obtain ⟨k, u, hwrites, hsame⟩ := hends.data
  have hlast (hne : t.lastCode ≠ s.lastCode) := ne_of_statusNeutral_eq_false (hends.lastCode hne)
  have hrecord (hne : t.sticky ≠ s.sticky ∨ t.errCause ≠ s.errCause ∨ t.errCmd ≠ s.errCmd) :
      i = .errClear ∨ (t.lastCode ≠ .ok ∧ i ≠ .statusRead ∧ ∀ c, i ≠ .errRead c) := by
    rcases hends.errRecord with hclear | ⟨hfailed, -, hstatus⟩ | ⟨hsticky, hcause, hcmd⟩
    · exact .inl hclear
    · exact .inr ⟨hfailed, ne_of_statusNeutral_eq_false hstatus⟩
    · simp [hsticky, hcause, hcmd] at hne
  rw [hsame]
  exact ⟨hwrites.crcAcc, hwrites.txFrame, hwrites.rxBuf, fun hne => (hwrites.rxLen hne).imp_left And.left,
    hwrites.payload, fun hne => mem_decodes_of_isDecode (hwrites.result hne), hlast, hrecord, hwrites.errCrc⟩

/-- Settles O49: a command that leaves STICKY clear is ERR_CLEAR, or STICKY was clear before it. -/
theorem onlyErrClearAndResetClearSticky : Obligations.OnlyErrClearAndResetClearSticky := by
  unfold Obligations.OnlyErrClearAndResetClearSticky
  intro s t h hset hclear
  rcases step_cases h with rfl | ⟨i, rest, hinbox, hends⟩ | ⟨w, rest, -, rfl⟩ | ⟨x, rest, hinbox, hreset, -⟩
  · simp [hset] at hclear
  · rcases hends.errRecord with rfl | ⟨-, hfailed, -⟩ | ⟨hsticky, -, -⟩
    · exact ⟨_, rest, hinbox, .inr (.inr rfl)⟩
    · simp [hfailed] at hclear
    · simp [hsticky, hset] at hclear
  · simp at hclear
  · exact ⟨x, rest, hinbox, hreset.elim .inl fun hduring => .inr (.inl hduring)⟩

theorem encode_mem_of_isDecode {i : Instr} (h : isDecode i = true) :
    encode i ∈ [0x30000000#32, 0x31000000, 0x32000000, 0x33000000] :=
  List.mem_map_of_mem (f := encode) (mem_decodes_of_isDecode h)

/-- Settles O50: a command that changes a result is a decode, and the word presented is its word. -/
theorem resultLastsUntilTheNextDecode : Obligations.ResultLastsUntilTheNextDecode := by
  unfold Obligations.ResultLastsUntilTheNextDecode
  intro s t h hne
  rcases step_cases h with rfl | ⟨i, rest, hinbox, hends⟩ | ⟨w, rest, -, rfl⟩ | ⟨x, rest, hinbox, hreset, -⟩
  · exact absurd (SameResult.refl t) hne
  · exact ⟨_, rest, hinbox, .inr (.inr ⟨_, rfl, encode_mem_of_isDecode (hends.result hne)⟩)⟩
  · exact absurd (SameResult.refl s) hne
  · exact ⟨x, rest, hinbox, hreset.elim .inl fun hduring => .inr (.inl hduring)⟩

end Sys2Proof.Machine
end

section
/-! The bytes of RX_BUF at RX_LEN and above cannot be observed (spec/10_state.md R26, R38): every command but RX_PUSH, which
alone writes the buffer, commutes with a change of those bytes. -/

namespace Sys2Proof.Machine

open Sys2Proof.Safety

/-- The state with another response buffer. -/
def withRxBuf (buf : Vector Byte 16) (s : State) : State := { s with rxBuf := buf }

/-- The outcome with another response buffer in its next state. -/
def outcomeWithRxBuf (buf : Vector Byte 16) : Result → Result
  | .next s => .next (withRxBuf buf s)
  | .fault r => .fault r
  | .refused r => .refused r

/-- The first `n` bytes of two buffers are the same. -/
def SameBytes (n : Nat) (buf buf' : Vector Byte 16) : Prop := buf'.toList.take n = buf.toList.take n

section
variable {m n : Nat} {buf buf' : Vector Byte 16}

theorem SameBytes.mono (h : SameBytes n buf buf') (hle : m ≤ n) : SameBytes m buf buf' := by
  have htake := congrArg (List.take m) h
  rwa [List.take_take, List.take_take, min_eq_left hle] at htake

theorem SameBytes.getElem (h : SameBytes n buf buf') {i : Nat} (hi : i < n) (hsize : i < 16) : buf'[i] = buf[i] := by
  have hget := congrArg (·[i]?) h
  simpa [List.getElem?_take, hi, hsize] using hget

/-- The byte RX_PUSH writes is the next one. -/
theorem SameBytes.set (h : SameBytes n buf buf') (c : Byte) (hn : n < 16) :
    SameBytes (n + 1) (buf.set n c hn) (buf'.set n c hn) := by
  unfold SameBytes at h ⊢
  rw [List.take_succ_eq_append_getElem (by simpa using hn), List.take_succ_eq_append_getElem (by simpa using hn)]
  simp [Vector.toList_set, List.take_set_of_le, h]

end

/-! ### What the commands read of the buffer -/

section
variable {s : State} {buf : Vector Byte 16}

theorem complete_withRxBuf (r : Word) (s : State) : complete r (withRxBuf buf s) = withRxBuf buf (complete r s) := rfl

/-- The payload view is part of the response (R27, R28). -/
theorem plLen_le_rxLen (hinv : PayloadInv s) : s.plLen.val ≤ s.rxLen.val := by
  obtain ⟨hvalid, hinvalid⟩ := hinv
  cases hpl : s.plValid with
  | false => simp [hinvalid hpl]
  | true =>
    have hbytes : rxBytes s = payloadBytes s ++ trailerOf (crc16 (payloadBytes s)) := hvalid hpl
    rw [← length_rxBytes s, ← length_payloadBytes s, hbytes, List.length_append]
    omega

theorem rxBytes_withRxBuf (h : SameBytes s.rxLen.val s.rxBuf buf) : rxBytes (withRxBuf buf s) = rxBytes s := h

theorem payloadBytes_withRxBuf (h : SameBytes s.plLen.val s.rxBuf buf) :
    payloadBytes (withRxBuf buf s) = payloadBytes s := h

theorem stringField_congr {n : Fin 15} {buf buf' : Vector Byte 16} (h : SameBytes n.val buf buf') :
    stringField buf' (stringLength n) = stringField buf (stringLength n) := by
  refine congrArg Vector.ofFn (funext fun i => ite_congr rfl (fun hinside => ?_) fun _ => rfl)
  have : i.val < n.val - 2 := hinside
  exact h.getElem (by omega) (by omega)

theorem numericWord_withRxBuf (h : SameBytes s.plLen.val s.rxBuf buf) :
    numericWord (withRxBuf buf s) = numericWord s := by
  rcases Nat.lt_or_ge s.plLen.val 6 with hshort | hlong
  · have hshort' : (withRxBuf buf s).plLen.val < 6 := hshort
    rw [numericWord, numericWord, if_pos hshort, if_pos hshort']
    rfl
  · rw [numericWord, numericWord, ← h.getElem (i := 2) (by omega) (by decide),
      ← h.getElem (i := 3) (by omega) (by decide), ← h.getElem (i := 4) (by omega) (by decide),
      ← h.getElem (i := 5) (by omega) (by decide)]
    rfl

theorem readByte_withRxBuf (w : Word) (bytes : List Byte) (i : Nat) (s : State) :
    readByte w bytes i (withRxBuf buf s) = withRxBuf buf (readByte w bytes i s) := by
  unfold readByte
  split <;> rfl

theorem needResult_withRxBuf (w : Word) (s t : State) :
    needResult w (withRxBuf buf s) (withRxBuf buf t) = withRxBuf buf (needResult w s t) := by
  rw [needResult, needResult, apply_ite (withRxBuf buf)]
  rfl

end

/-! ### The commands with more than one end -/

section
variable {s : State} {buf : Vector Byte 16}

theorem execFrameBuild_withRxBuf (a b c : Byte) (s : State) :
    execFrameBuild a b c (withRxBuf buf s) = outcomeWithRxBuf buf (execFrameBuild a b c s) := by
  rw [execFrameBuild, execFrameBuild, apply_ite (outcomeWithRxBuf buf)]
  rfl

theorem execFrameRead_withRxBuf (c : Byte) (s : State) :
    execFrameRead c (withRxBuf buf s) = outcomeWithRxBuf buf (execFrameRead c s) := by
  rw [execFrameRead, execFrameRead, readByte_withRxBuf, apply_ite (outcomeWithRxBuf buf)]
  rfl

theorem execRxVerify_withRxBuf (h : SameBytes s.rxLen.val s.rxBuf buf) :
    execRxVerify (withRxBuf buf s) = outcomeWithRxBuf buf (execRxVerify s) := by
  rw [execRxVerify, execRxVerify, rxBytes_withRxBuf h]
  split <;> rfl

theorem execRxRead_withRxBuf (h : SameBytes s.rxLen.val s.rxBuf buf) (c : Byte) :
    execRxRead c (withRxBuf buf s) = outcomeWithRxBuf buf (execRxRead c s) := by
  rw [execRxRead, execRxRead, rxBytes_withRxBuf h, readByte_withRxBuf]
  rfl

theorem execPlRead_withRxBuf (h : SameBytes s.plLen.val s.rxBuf buf) (c : Byte) :
    execPlRead c (withRxBuf buf s) = outcomeWithRxBuf buf (execPlRead c s) := by
  rw [execPlRead, execPlRead, payloadBytes_withRxBuf h, readByte_withRxBuf, apply_ite (outcomeWithRxBuf buf)]
  rfl

theorem execDecInt32_withRxBuf (h : SameBytes s.plLen.val s.rxBuf buf) :
    execDecInt32 (withRxBuf buf s) = outcomeWithRxBuf buf (execDecInt32 s) := by
  rw [execDecInt32, execDecInt32, numericWord_withRxBuf h]
  split <;> rfl

theorem execDecFloat32_withRxBuf (h : SameBytes s.plLen.val s.rxBuf buf) :
    execDecFloat32 (withRxBuf buf s) = outcomeWithRxBuf buf (execDecFloat32 s) := by
  rw [execDecFloat32, execDecFloat32, numericWord_withRxBuf h]
  split <;> rfl

theorem execDecDate_withRxBuf (h : SameBytes s.plLen.val s.rxBuf buf) :
    execDecDate (withRxBuf buf s) = outcomeWithRxBuf buf (execDecDate s) := by
  rw [execDecDate, execDecDate, numericWord_withRxBuf h]
  split
  · rfl
  · rw [apply_ite (outcomeWithRxBuf buf)]
    rfl

theorem execDecString_withRxBuf (h : SameBytes s.plLen.val s.rxBuf buf) :
    execDecString (withRxBuf buf s) = outcomeWithRxBuf buf (execDecString s) := by
  simp only [execDecString, apply_ite (outcomeWithRxBuf buf), ← stringField_congr h]
  rfl

theorem execResRead_withRxBuf (c : Byte) (s : State) :
    execResRead c (withRxBuf buf s) = outcomeWithRxBuf buf (execResRead c s) := by
  unfold execResRead
  split
  · rfl
  · rfl
  · rw [complete_withRxBuf, needResult_withRxBuf]
    rfl
  · rw [complete_withRxBuf, needResult_withRxBuf]
    rfl
  · rw [complete_withRxBuf, needResult_withRxBuf]
    rfl
  · rw [readByte_withRxBuf, needResult_withRxBuf]
    rfl

theorem execErrRead_withRxBuf (c : Byte) (s : State) :
    execErrRead c (withRxBuf buf s) = outcomeWithRxBuf buf (execErrRead c s) := by
  unfold execErrRead
  split <;> rfl

/-- A command that does not write the buffer does the same with any two whose received bytes agree. -/
theorem exec_withRxBuf (hinv : PayloadInv s) (h : SameBytes s.rxLen.val s.rxBuf buf) {i : Instr}
    (hpush : ∀ c, i ≠ .rxPush c) : exec i (withRxBuf buf s) = outcomeWithRxBuf buf (exec i s) := by
  have hpayload : SameBytes s.plLen.val s.rxBuf buf := h.mono (plLen_le_rxLen hinv)
  cases i with
  | nop => rfl
  | crcInit => rfl
  | crcByte c => rfl
  | crcRead => rfl
  | frameBuild a b c => exact execFrameBuild_withRxBuf a b c s
  | frameRead c => exact execFrameRead_withRxBuf c s
  | rxClear => rfl
  | rxPush c => exact absurd rfl (hpush c)
  | rxVerify => exact execRxVerify_withRxBuf h
  | rxRead c => exact execRxRead_withRxBuf h c
  | plRead c => exact execPlRead_withRxBuf hpayload c
  | decInt32 => exact execDecInt32_withRxBuf hpayload
  | decFloat32 => exact execDecFloat32_withRxBuf hpayload
  | decString => exact execDecString_withRxBuf hpayload
  | decDate => exact execDecDate_withRxBuf hpayload
  | resRead c => exact execResRead_withRxBuf c s
  | statusRead => rfl
  | errRead c => exact execErrRead_withRxBuf c s
  | errClear => rfl

/-- RX_PUSH writes one byte of each buffer, or of neither. -/
theorem execRxPush_withRxBuf (h : SameBytes s.rxLen.val s.rxBuf buf) (c : Byte) :
    ∃ (s' : State) (buf' : Vector Byte 16), execRxPush c s = .next s' ∧
      execRxPush c (withRxBuf buf s) = .next (withRxBuf buf' s') ∧ SameBytes s'.rxLen.val s'.rxBuf buf' := by
  unfold execRxPush
  split
  · exact ⟨_, buf.set s.rxLen.val c ‹_›, rfl, dif_pos ‹_›, h.set c ‹_›⟩
  · exact ⟨_, buf, rfl, dif_neg ‹_›, h⟩

/-- A command that is no RX_PUSH keeps the buffer and does not lengthen the response. -/
theorem Ends.received {i : Instr} {s' : State} (h : Ends i s s') (hpush : ∀ c, i ≠ .rxPush c) :
    s'.rxBuf = s.rxBuf ∧ s'.rxLen ≤ s.rxLen := by
  obtain ⟨k, u, hwrites, hsame⟩ := h.data
  rw [hsame]
  constructor
  · by_contra hne
    obtain ⟨c, rfl⟩ := hwrites.rxBuf hne
    exact hpush c rfl
  · by_cases hne : u.rxLen = s.rxLen
    · exact hne.le
    · rcases hwrites.rxLen hne with ⟨-, hzero⟩ | ⟨c, rfl⟩
      · exact hzero ▸ Fin.zero_le _
      · exact absurd rfl (hpush c)

/-- Two states that agree but for stale bytes still do after any command, which answers the same. -/
theorem exec_next_withRxBuf (hinv : PayloadInv s) (h : SameBytes s.rxLen.val s.rxBuf buf) {i : Instr} {s' : State}
    (hexec : exec i s = .next s') :
    ∃ buf', exec i (withRxBuf buf s) = .next (withRxBuf buf' s') ∧ SameBytes s'.rxLen.val s'.rxBuf buf' := by
  by_cases hpush : ∃ c, i = .rxPush c
  · obtain ⟨c, rfl⟩ := hpush
    obtain ⟨v, buf', hs, ht, hsame⟩ := execRxPush_withRxBuf h c
    cases hs.symm.trans hexec
    exact ⟨buf', ht, hsame⟩
  · simp only [not_exists] at hpush
    obtain ⟨hbuf, hlen⟩ := (exec_ends hexec).received hpush
    refine ⟨buf, ?_, ?_⟩
    · rw [exec_withRxBuf hinv h hpush, hexec]
      rfl
    · rw [hbuf]
      exact h.mono hlen

end

/-- Settles O51: the second state is the first with another buffer, and no command reads that buffer past RX_LEN. -/
theorem staleBytesAreUnobservable : Obligations.StaleBytesAreUnobservable := by
  unfold Obligations.StaleBytesAreUnobservable
  rintro i s t s' hinv ⟨ht, hsame⟩ hexec
  obtain ⟨buf', hexec', hsame'⟩ := exec_next_withRxBuf hinv hsame hexec
  refine ⟨withRxBuf buf' s', ?_, rfl, rfl, hsame'⟩
  rw [ht]
  exact hexec'

end Sys2Proof.Machine
end

section
/-! The step on a presented word (spec/20_memory.md R54, spec/60_exceptions.md R145): it is the word's execution and
nothing besides. -/

namespace Sys2Proof.Machine

section
variable {s : State} {w : Word}

theorem step_of_command {rest : List Input} (h : s.inbox = .command w :: rest) :
    step s = runWord w { s with inbox := rest } := by
  rw [step, takeInput, h]
  rfl

theorem runWord_of_decode {i : Instr} (h : decode w = .ok i) : runWord w s = exec i s := by
  rw [runWord, h]

theorem runWord_of_illegal {e : Illegal} (h : decode w = .error e) :
    runWord w s = .next (raise w .illegalCommand s) := by
  rw [runWord, h, illegalCommand]

end

/-- Settles O7: a step on a word is `runWord`, which is the decoded command or the ILLEGAL failure. -/
theorem stepRunsTheDecodedCommand : Obligations.StepRunsTheDecodedCommand := by
  unfold Obligations.StepRunsTheDecodedCommand
  intro s w rest hinbox
  have hstep := step_of_command hinbox
  exact ⟨hstep, fun i hdecode => hstep.trans (runWord_of_decode hdecode),
    fun e hillegal => hstep.trans (runWord_of_illegal hillegal)⟩

end Sys2Proof.Machine
end

section
/-! What RX_VERIFY and the numeric decodes do, one equation for each answer of the check they begin with
(spec/41_frame.md R89, spec/42_decode.md R103, R104, R107). -/

namespace Sys2Proof.Machine

section
variable {s : State}

theorem execRxVerify_short (h : stripAndVerify (rxBytes s) = .short) :
    execRxVerify s = .next (raise (encode .rxVerify) .framingShort (invalidatePayload s)) := by
  rw [execRxVerify, h]

theorem execRxVerify_mismatch {calcCrc recvCrc : Half} (h : stripAndVerify (rxBytes s) = .mismatch calcCrc recvCrc) :
    execRxVerify s =
      .next (raise (encode .rxVerify) .framingMismatch
        { invalidatePayload s with errCrcCalc := calcCrc, errCrcRecv := recvCrc }) := by
  rw [execRxVerify, h]

theorem execRxVerify_payload {p : List Byte} (h : stripAndVerify (rxBytes s) = .payload p) :
    execRxVerify s =
      .next (complete (BitVec.ofNat 32 (strippedLength s.rxLen).val)
        { s with plValid := true, plLen := strippedLength s.rxLen }) := by
  rw [execRxVerify, h]

theorem execDecInt32_error {k : Code} (h : numericWord s = .error k) :
    execDecInt32 s = .next (failDecode (encode .decInt32) k s) := by
  rw [execDecInt32, h]

theorem execDecInt32_ok {w : Word} (h : numericWord s = .ok w) :
    execDecInt32 s = .next (finishNumeric .int32 w w s) := by
  rw [execDecInt32, h]

theorem execDecFloat32_error {k : Code} (h : numericWord s = .error k) :
    execDecFloat32 s = .next (failDecode (encode .decFloat32) k s) := by
  rw [execDecFloat32, h]

theorem execDecFloat32_ok {w : Word} (h : numericWord s = .ok w) :
    execDecFloat32 s = .next (finishNumeric .float32 w w s) := by
  rw [execDecFloat32, h]

theorem execDecDate_error {k : Code} (h : numericWord s = .error k) :
    execDecDate s = .next (failDecode (encode .decDate) k s) := by
  rw [execDecDate, h]

theorem execDecDate_ok {w : Word} (h : numericWord s = .ok w) (hlegal : s.params.legal = true) :
    execDecDate s = .next (finishNumeric .date (packDate (dateOfTimestamp s.params w)) w s) := by
  simp [execDecDate, h, hlegal]

end

end Sys2Proof.Machine
end

section
/-! A command executed twice (spec/20_memory.md R52). The second execution meets the same case as the first, because a
command other than RX_PUSH and CRC_BYTE writes none of the registers that its case is chosen by; and in the same case it
writes the same values. -/

namespace Sys2Proof.Machine

/-- Executed again, the command gives the completion it gave the first time, and changes nothing else. -/
def CommandRepeats (i : Instr) (s : State) : Prop :=
  ∀ t : State, exec i s = .next t →
    ∃ c : Completion, t.completions = s.completions ++ [c] ∧
      exec i t = .next { t with completions := t.completions ++ [c] }

theorem commandRepeats_of_next {i : Instr} {s t : State} {c : Completion} (hfirst : exec i s = .next t)
    (hcompletions : t.completions = s.completions ++ [c])
    (hsecond : exec i t = .next { t with completions := t.completions ++ [c] }) : CommandRepeats i s := by
  intro u hu
  cases hfirst.symm.trans hu
  exact ⟨c, hcompletions, hsecond⟩

theorem commandRepeats_of_refused {i : Instr} {s : State} {r : Refusal} (h : exec i s = .refused r) :
    CommandRepeats i s := by
  intro t ht
  cases h.symm.trans ht

/-- A status-neutral answer repeats if it does not read the completions, which are all it writes. -/
theorem commandRepeats_of_respond {i : Instr} {s : State} {k : Code} {resp : State → Word}
    (hexec : ∀ u, exec i u = .next (respond k (resp u) u)) (hresp : resp (respond k (resp s) s) = resp s) :
    CommandRepeats i s := by
  refine commandRepeats_of_next (hexec s) rfl ((hexec _).trans ?_)
  rw [hresp]
  rfl

/-! ### The commands that read -/

/-- A read of the registers: it leaves the data as they are, and applied again it adds the completion it added the first
time and changes nothing else. -/
structure RepeatedRead (f : State → State) (s : State) : Prop where
  sameData : SameData s (f s)
  again : ∃ c : Completion, (f s).completions = s.completions ++ [c] ∧
    f (f s) = { f s with completions := (f s).completions ++ [c] }

section
variable {s : State} {f : State → State}

/-- A command that is one read in every state with the same data repeats. -/
theorem RepeatedRead.commandRepeats {i : Instr} (h : RepeatedRead f s)
    (hexec : ∀ u, SameData s u → exec i u = .next (f u)) : CommandRepeats i s := by
  obtain ⟨hdata, c, hcompletions, hagain⟩ := h
  exact commandRepeats_of_next (hexec s rfl) hcompletions ((hexec _ hdata).trans (congrArg _ hagain))

theorem repeatedRead_complete (resp : Word) (s : State) : RepeatedRead (complete resp) s := ⟨rfl, _, rfl, rfl⟩

theorem repeatedRead_raise (w : Word) (k : Code) (s : State) : RepeatedRead (raise w k) s := ⟨rfl, _, rfl, rfl⟩

/-- With the bytes and the index fixed, a read of a byte is the same completion or the same failure in every state. -/
theorem repeatedRead_readByte (w : Word) (bytes : List Byte) (n : Nat) (s : State) :
    RepeatedRead (readByte w bytes n) s := by
  rcases Nat.lt_or_ge n bytes.length with hinside | houtside
  · have hread : readByte w bytes n = complete (bytes[n].setWidth 32) := funext fun _ => readByte_inside hinside
    exact hread ▸ repeatedRead_complete _ s
  · have hread : readByte w bytes n = raise w .argRange := funext fun _ => readByte_outside houtside
    exact hread ▸ repeatedRead_raise w .argRange s

/-- A read keeps the tag, so the check for a result goes the same way again. -/
theorem repeatedRead_needResult (w : Word) (h : RepeatedRead f s) :
    RepeatedRead (fun u => needResult w u (f u)) s := by
  obtain ⟨hdata, hagain⟩ := h
  have htag : (f s).resTag = s.resTag := by rw [hdata]
  by_cases hnone : s.resTag = .none
  · have hneed (u : State) (hu : u.resTag = .none) : needResult w u (f u) = raise w .noData u := if_pos hu
    refine ⟨?_, ⟨.noData, 0⟩, ?_, ?_⟩
    all_goals simp only [hneed s hnone, hneed (raise w .noData s) hnone]
    all_goals rfl
  · have hneed (u : State) (hu : u.resTag = s.resTag) : needResult w u (f u) = f u := if_neg (hu ▸ hnone)
    obtain ⟨c, hcompletions, htwice⟩ := hagain
    refine ⟨?_, c, ?_, ?_⟩
    all_goals simpa only [hneed s rfl, hneed (f s) htag]

end

section
variable (s : State)

theorem frameRead_repeats (c : Byte) : CommandRepeats (.frameRead c) s := by
  by_cases hvalid : s.txValid = false
  · exact (repeatedRead_raise _ _ s).commandRepeats fun u hu => by rw [hu]; exact if_pos hvalid
  · exact (repeatedRead_readByte _ s.txFrame.toList _ s).commandRepeats fun u hu => by rw [hu]; exact if_neg hvalid

theorem rxRead_repeats (c : Byte) : CommandRepeats (.rxRead c) s :=
  (repeatedRead_readByte _ (rxBytes s) _ s).commandRepeats fun u hu => by rw [hu]; rfl

theorem plRead_repeats (c : Byte) : CommandRepeats (.plRead c) s := by
  by_cases hvalid : s.plValid = false
  · exact (repeatedRead_raise _ _ s).commandRepeats fun u hu => by rw [hu]; exact if_pos hvalid
  · exact (repeatedRead_readByte _ (payloadBytes s) _ s).commandRepeats fun u hu => by rw [hu]; exact if_neg hvalid

theorem resRead_repeats (c : Byte) : CommandRepeats (.resRead c) s := by
  rcases hselector : resSelector c with _ | _ | _ | _ | _ | n
  · exact (repeatedRead_raise _ _ s).commandRepeats fun u hu => by rw [hu, exec, execResRead, hselector]
  · exact (repeatedRead_complete ((tagBits s.resTag).setWidth 32) s).commandRepeats fun u hu => by
      rw [hu, exec, execResRead, hselector]
  · exact (repeatedRead_needResult _ (repeatedRead_complete s.resWord s)).commandRepeats fun u hu => by
      rw [hu, exec, execResRead, hselector]
  · exact (repeatedRead_needResult _ (repeatedRead_complete s.resRaw s)).commandRepeats fun u hu => by
      rw [hu, exec, execResRead, hselector]
  · exact (repeatedRead_needResult _ (repeatedRead_complete (BitVec.ofNat 32 s.resSlen.val) s)).commandRepeats
      fun u hu => by rw [hu, exec, execResRead, hselector]
  · exact (repeatedRead_needResult _ (repeatedRead_readByte _ (resultString s) n s)).commandRepeats fun u hu => by
      rw [hu, exec, execResRead, hselector]
      rfl

theorem errRead_repeats (c : Byte) : CommandRepeats (.errRead c) s := by
  rcases hselector : errSelector c with _ | _ | _ | _ | _
  · exact commandRepeats_of_respond (resp := fun _ => 0) (fun u => by rw [exec, execErrRead, hselector]) rfl
  · exact commandRepeats_of_respond (resp := fun u => (codeBits u.errCause).setWidth 32)
      (fun u => by rw [exec, execErrRead, hselector]) rfl
  · exact commandRepeats_of_respond (resp := fun u => u.errCmd) (fun u => by rw [exec, execErrRead, hselector]) rfl
  · exact commandRepeats_of_respond (resp := fun u => u.errCrcCalc.setWidth 32)
      (fun u => by rw [exec, execErrRead, hselector]) rfl
  · exact commandRepeats_of_respond (resp := fun u => u.errCrcRecv.setWidth 32)
      (fun u => by rw [exec, execErrRead, hselector]) rfl

/-! ### The commands that write -/

theorem frameBuild_repeats (a b c : Byte) : CommandRepeats (.frameBuild a b c) s := by
  by_cases haddr : s.params.addrMax.toNat < a.toNat
  · exact commandRepeats_of_next (if_pos haddr) rfl (if_pos haddr)
  · exact commandRepeats_of_next (if_neg haddr) rfl (if_neg haddr)

theorem rxVerify_repeats : CommandRepeats .rxVerify s := by
  rcases hchecked : stripAndVerify (rxBytes s) with _ | ⟨calcCrc, recvCrc⟩ | p
  · exact commandRepeats_of_next (execRxVerify_short hchecked) rfl (execRxVerify_short hchecked)
  · exact commandRepeats_of_next (execRxVerify_mismatch hchecked) rfl (execRxVerify_mismatch hchecked)
  · exact commandRepeats_of_next (execRxVerify_payload hchecked) rfl (execRxVerify_payload hchecked)

theorem decInt32_repeats : CommandRepeats .decInt32 s := by
  rcases hword : numericWord s with k | w
  · exact commandRepeats_of_next (execDecInt32_error hword) rfl (execDecInt32_error hword)
  · exact commandRepeats_of_next (execDecInt32_ok hword) rfl (execDecInt32_ok hword)

theorem decFloat32_repeats : CommandRepeats .decFloat32 s := by
  rcases hword : numericWord s with k | w
  · exact commandRepeats_of_next (execDecFloat32_error hword) rfl (execDecFloat32_error hword)
  · exact commandRepeats_of_next (execDecFloat32_ok hword) rfl (execDecFloat32_ok hword)

theorem decString_repeats : CommandRepeats .decString s := by
  by_cases hvalid : s.plValid = false
  · exact commandRepeats_of_next (if_pos hvalid) rfl (if_pos hvalid)
  · by_cases hshort : s.plLen.val < 2
    · exact commandRepeats_of_next ((if_neg hvalid).trans (if_pos hshort)) rfl ((if_neg hvalid).trans (if_pos hshort))
    · exact commandRepeats_of_next ((if_neg hvalid).trans (if_neg hshort)) rfl ((if_neg hvalid).trans (if_neg hshort))

theorem decDate_repeats : CommandRepeats .decDate s := by
  rcases hword : numericWord s with k | w
  · exact commandRepeats_of_next (execDecDate_error hword) rfl (execDecDate_error hword)
  · cases hlegal : s.params.legal with
    | false => exact commandRepeats_of_refused (execDecDate_refused hword hlegal)
    | true => exact commandRepeats_of_next (execDecDate_ok hword hlegal) rfl (execDecDate_ok hword hlegal)

/-- Every command repeats but the one that appends to the response and the one that advances the CRC. -/
theorem exec_repeats {i : Instr} (hpush : ∀ c, i ≠ .rxPush c) (hcrc : ∀ c, i ≠ .crcByte c) : CommandRepeats i s := by
  cases i with
  | nop => exact commandRepeats_of_next rfl rfl rfl
  | crcInit => exact commandRepeats_of_next rfl rfl rfl
  | crcByte c => exact absurd rfl (hcrc c)
  | crcRead => exact commandRepeats_of_next rfl rfl rfl
  | frameBuild a b c => exact frameBuild_repeats s a b c
  | frameRead c => exact frameRead_repeats s c
  | rxClear => exact commandRepeats_of_next rfl rfl rfl
  | rxPush c => exact absurd rfl (hpush c)
  | rxVerify => exact rxVerify_repeats s
  | rxRead c => exact rxRead_repeats s c
  | plRead c => exact plRead_repeats s c
  | decInt32 => exact decInt32_repeats s
  | decFloat32 => exact decFloat32_repeats s
  | decString => exact decString_repeats s
  | decDate => exact decDate_repeats s
  | resRead c => exact resRead_repeats s c
  | statusRead => exact commandRepeats_of_respond (fun _ => rfl) rfl
  | errRead c => exact errRead_repeats s c
  | errClear => exact commandRepeats_of_next rfl rfl rfl

end

/-- Settles O41: by `exec_repeats`, one case for each command. -/
theorem repeatedCommandChangesNothing : Obligations.RepeatedCommandChangesNothing := by
  unfold Obligations.RepeatedCommandChangesNothing
  exact fun i s t hpush hcrc => exec_repeats s hpush hcrc t

end Sys2Proof.Machine
end

section
/-! The opcode map and the decoder (spec/30_encoding.md R61 to R66): a word decodes to a row's command exactly when it
selects the row, every command is some row's, and the row's word keeps the operands. -/

namespace Sys2Proof

open Sys2Proof.Machine Sys2Proof.Safety

/-- The word's OP is the row's and the row's must-be-zero fields are zero (R64, R66). -/
def OpcodeRow.Selects (r : OpcodeRow) (w : Word) : Prop := opField w = r.op ∧ r.format.wellFormed w = true

/-- The row's command with the word's operand fields (R63, R65). -/
def OpcodeRow.command (r : OpcodeRow) (w : Word) : Instr := r.build (fieldA w) (fieldB w) (fieldC w)

/-! ### Masking, field by field -/

section
variable (v w : Word)

@[simp] theorem opField_and : opField (v &&& w) = opField v &&& opField w := BitVec.extractLsb'_and

@[simp] theorem fieldA_and : fieldA (v &&& w) = fieldA v &&& fieldA w := BitVec.extractLsb'_and

@[simp] theorem fieldB_and : fieldB (v &&& w) = fieldB v &&& fieldB w := BitVec.extractLsb'_and

@[simp] theorem fieldC_and : fieldC (v &&& w) = fieldC v &&& fieldC w := BitVec.extractLsb'_and

end

section
variable {r : OpcodeRow} {w : Word}

theorem eq_packWord_iff {op a b c : Byte} :
    w = packWord op a b c ↔ opField w = op ∧ fieldA w = a ∧ fieldB w = b ∧ fieldC w = c := by
  constructor
  · rintro rfl
    simp
  · rintro ⟨rfl, rfl, rfl, rfl⟩
    exact (packWord_fields w).symm

/-- The check of R66 does not look at OP. -/
theorem wellFormed_iff (f : Format) (w : Word) :
    f.wellFormed w = true ↔
      fieldA w &&& fieldA f.mustBeZero = 0 ∧ fieldB w &&& fieldB f.mustBeZero = 0 ∧
        fieldC w &&& fieldC f.mustBeZero = 0 := by
  have hzero : (0 : Word) = packWord 0 0 0 0 := rfl
  have hop : opField f.mustBeZero = 0 := by cases f <;> rfl
  simp [Format.wellFormed, hzero, eq_packWord_iff, hop]

/-- The mask is all of OP and the must-be-zero bits of the other fields. -/
theorem mask_fields (r : OpcodeRow) :
    opField r.mask = BitVec.allOnes 8 ∧ fieldA r.mask = fieldA r.format.mustBeZero ∧
      fieldB r.mask = fieldB r.format.mustBeZero ∧ fieldC r.mask = fieldC r.format.mustBeZero := by
  unfold OpcodeRow.mask
  cases r.format <;> decide

/-- Selecting a row is the comparison with its match and mask (R64). -/
theorem and_mask_eq_iff : w &&& r.mask = r.matchWord ↔ r.Selects w := by
  obtain ⟨hop, ha, hb, hc⟩ := mask_fields r
  rw [OpcodeRow.Selects, wellFormed_iff, OpcodeRow.matchWord, eq_packWord_iff]
  simp only [opField_and, fieldA_and, fieldB_and, fieldC_and, hop, ha, hb, hc, BitVec.and_allOnes]

/-! ### The row a word selects -/

/-- No two rows have the same OP (R64). -/
theorem find?_op : ∀ r ∈ opcodeMap, opcodeMap.find? (fun q => q.op == r.op) = some r := by
  simp [opcodeMap]

theorem decode_of_selects (hr : r ∈ opcodeMap) (h : r.Selects w) : decode w = .ok (r.command w) := by
  obtain ⟨hop, hwell⟩ := h
  simp [decode, hop, find?_op r hr, hwell, OpcodeRow.command]

theorem exists_row_of_decode {i : Instr} (h : decode w = .ok i) : ∃ r ∈ opcodeMap, r.Selects w ∧ r.command w = i := by
  unfold decode at h
  split at h
  · cases h
  · rename_i r hfind
    split at h <;> cases h
    rename_i hwell
    have hop : r.op = opField w := by simpa using List.find?_some hfind
    exact ⟨r, List.mem_of_find?_eq_some hfind, ⟨hop.symm, hwell⟩, rfl⟩

/-- A word is ILLEGAL exactly when it selects no row (R66). -/
theorem selects_no_row_iff (w : Word) : (∀ r ∈ opcodeMap, ¬ r.Selects w) ↔ ∃ e, decode w = .error e := by
  constructor
  · intro hnone
    rcases hdecode : decode w with e | i
    · exact ⟨e, rfl⟩
    · obtain ⟨r, hr, hselects, -⟩ := exists_row_of_decode hdecode
      exact absurd hselects (hnone r hr)
  · rintro ⟨e, hillegal⟩ r hr hselects
    rw [decode_of_selects hr hselects] at hillegal
    cases hillegal

/-! ### The row of a command -/

@[simp] theorem opField_pack (f : Format) (op a b c : Byte) : opField (f.pack op a b c) = op := by
  cases f <;> simp [Format.pack]

/-- A format's word passes the format's check (R62). -/
theorem wellFormed_pack (f : Format) (op a b c : Byte) : f.wellFormed (f.pack op a b c) = true := by
  cases f with
  | z => simp [wellFormed_iff, Format.pack]
  | c8 => exact Laws.EncodesWellFormed.c8_packWord op c
  | abc => exact beq_iff_eq.mpr BitVec.and_zero

theorem selects_pack (r : OpcodeRow) (a b c : Byte) : r.Selects (r.format.pack r.op a b c) :=
  ⟨opField_pack .., wellFormed_pack ..⟩

/-- A row's word keeps every operand its command has. -/
theorem command_pack : ∀ r ∈ opcodeMap, ∀ a b c, r.command (r.format.pack r.op a b c) = r.build a b c := by
  simp [opcodeMap, OpcodeRow.command, Format.pack]

/-- The opcode map has a row for every command. -/
theorem exists_row_of_instr (i : Instr) : ∃ r ∈ opcodeMap, ∃ a b c, r.build a b c = i := by
  cases i <;> simp [opcodeMap]

theorem decode_encode (i : Instr) : decode (encode i) = .ok i := by
  obtain ⟨r, hr, a, b, c, rfl⟩ := exists_row_of_instr i
  rw [encode_build r hr, decode_of_selects hr (selects_pack r a b c), command_pack r hr]

/-- The converse of `decode_of_selects`: the word is its command's, so the row's own word, which selects the row. -/
theorem decode_eq_command_iff (hr : r ∈ opcodeMap) : decode w = .ok (r.command w) ↔ r.Selects w := by
  refine ⟨fun h => ?_, decode_of_selects hr⟩
  rw [← encode_of_decode h, OpcodeRow.command, encode_build r hr]
  exact selects_pack ..

end

/-! ### The map of the statements -/

/-- The map the statements use is the decoder's. -/
theorem rowMap_eq_map_opcodeMap : rowMap = opcodeMap.map fun r => (r.matchWord, r.mask, r.command) := rfl

theorem matches_no_row_iff (w : Word) :
    (∀ row ∈ rowMap, w &&& row.2.1 ≠ row.1) ↔ ∃ e, decode w = .error e := by
  simpa [rowMap_eq_map_opcodeMap, and_mask_eq_iff] using selects_no_row_iff w

/-- Settles O1: every command is a row's, and the row's word selects the row and keeps the operands. -/
theorem decodeUndoesEncode : Obligations.DecodeUndoesEncode := by
  unfold Obligations.DecodeUndoesEncode
  exact decode_encode

/-- Settles O2: the row that decoding finds has the word's OP, and the fields its format leaves out are zero. -/
theorem encodeUndoesDecode : Obligations.EncodeUndoesDecode := by
  unfold Obligations.EncodeUndoesDecode
  exact fun _ _ => encode_of_decode

/-- Settles O3: match and mask select a row exactly when its OP and its must-be-zero fields do. -/
theorem wordDecodesToTheRowItSelects : Obligations.WordDecodesToTheRowItSelects := by
  unfold Obligations.WordDecodesToTheRowItSelects
  refine ⟨fun w => ?_, matches_no_row_iff⟩
  rw [rowMap_eq_map_opcodeMap, List.forall_mem_map]
  exact fun r hr => and_mask_eq_iff.trans (decode_eq_command_iff hr).symm

/-- Settles O4: each legal word is `encode` of its command. -/
theorem writtenOutWordsDecode : Obligations.WrittenOutWordsDecode := by
  unfold Obligations.WrittenOutWordsDecode
  exact ⟨decode_encode .nop, decode_encode (.crcByte 0x31), decode_encode (.frameBuild 0x02 0x3B 0x00),
    decode_encode (.frameRead 0x0A), decode_encode (.rxPush 0xD2), decode_encode .rxVerify, decode_encode .decDate,
    decode_encode (.resRead 0x1B), decode_encode (.errRead 0x03), decode_encode .errClear, by decide⟩

/-- Settles O5: a word that matches no row is ILLEGAL, and `raise` makes exactly the writes stated. -/
theorem illegalWordFailsAndRecordsTheWord : Obligations.IllegalWordFailsAndRecordsTheWord := by
  unfold Obligations.IllegalWordFailsAndRecordsTheWord
  refine ⟨fun w s hnone => ?_, by decide +kernel⟩
  obtain ⟨e, hillegal⟩ := (matches_no_row_iff w).mp hnone
  exact runWord_of_illegal hillegal

end Sys2Proof
end

section
/-! The assembler (spec/30_encoding.md R69): what a number operand, a selector, a list of byte operands and each kind of
mnemonic stand for. -/

namespace Sys2Proof.Machine.Asm

/-! ### Operands -/

section
variable {t : List Char} {v : Nat}

/-- A number begins with a decimal digit. -/
theorem number_cons_eq_none {c : Char} (h : digit 10 c = none) : number (c :: t) = none := by
  unfold number
  split
  · rename_i heq
    obtain ⟨rfl, -⟩ := List.cons.inj heq
    exact absurd h (by decide)
  · simp [digits, h, List.foldl_fixed']

theorem fits_of_number (n : Nat) (h : number t = some v) :
    fits n t = if v < 2 ^ n then some (BitVec.ofNat n v) else none := by
  simp [fits, h]

theorem byte_of_number (h : number t = some v) : byte t = if v ≤ 255 then some (BitVec.ofNat 8 v) else none := by
  simpa [byte, Nat.lt_succ_iff] using fits_of_number 8 h

/-- The names of the selectors of RES_READ and ERR_READ (R69). -/
def selectorNames : List String := ["TAG", "WORD", "RAW", "SLEN", "CAUSE", "CMD", "CALC", "RECV"]

theorem ne_name_of_number (h : number t = some v) : ∀ name ∈ selectorNames, t ≠ name.toList := by
  have hnames : ∀ name ∈ selectorNames, number name.toList = none := by decide +kernel
  rintro name hname rfl
  simp [hnames name hname] at h

/-- A selector of RES_READ that is a number is that byte: it is no name, and STR+i begins with no digit. -/
theorem resultSelector_of_number (h : number t = some v) : resultSelector t = byte t := by
  have hname := ne_name_of_number h
  simp only [selectorNames, List.forall_mem_cons] at hname
  simp only [resultSelector.eq_def, hname, if_false]
  split
  · rw [number_cons_eq_none (by decide)] at h
    cases h
  · rfl

/-- A selector of ERR_READ that is a number is that byte. -/
theorem errorSelector_of_number (h : number t = some v) : errorSelector t = byte t := by
  have hname := ne_name_of_number h
  simp only [selectorNames, List.forall_mem_cons] at hname
  simp only [errorSelector, hname, if_false]

theorem resultSelector_str (h : number t = some v) :
    resultSelector ("STR+".toList ++ t) = if v ≤ 11 then some (BitVec.ofNat 8 (0x10 + v)) else none := by
  simp [resultSelector, h]

end

/-! ### Lists of byte operands -/

section
variable {ops : List (List Char)} {xs : List Byte}

theorem map_eq_of_mapM_eq_some {α β : Type} {f : α → Option β} {as : List α} {bs : List β} (h : as.mapM f = some bs) :
    as.map f = bs.map some := by
  induction as generalizing bs with
  | nil =>
    obtain rfl : bs = [] := by simpa using h.symm
    rfl
  | cons a as ih =>
    simp only [List.mapM_cons, Option.bind_eq_bind, Option.bind_eq_some_iff, Option.pure_def, Option.some.injEq] at h
    obtain ⟨b, hb, bs', hbs, rfl⟩ := h
    simp [hb, ih hbs]

/-- One operand that is no byte spoils the list. -/
theorem mapM_byte_eq_none {t : List Char} (ht : t ∈ ops) (hbyte : byte t = none) : ops.mapM byte = none := by
  refine Option.eq_none_iff_forall_ne_some.mpr fun xs h => ?_
  have hmem := List.mem_map_of_mem (f := byte) ht
  rw [map_eq_of_mapM_eq_some h, hbyte] at hmem
  simp at hmem

theorem length_of_mapM_byte (h : ops.mapM byte = some xs) : xs.length = ops.length := by
  simpa using (congrArg List.length (map_eq_of_mapM_eq_some h)).symm

theorem bytes_eq_none_of_mapM {most : Option Nat} (h : ops.mapM byte = none) : bytes most ops = none := by
  simp [bytes, h]

theorem bytes_unbounded_of_mapM (h : ops.mapM byte = some xs) (hne : xs ≠ []) : bytes none ops = some xs := by
  cases xs with
  | nil => contradiction
  | cons x xs => simp [bytes, h]

theorem bytes_bounded_of_mapM (n : Nat) (h : ops.mapM byte = some xs) (hne : xs ≠ []) :
    bytes (some n) ops = if xs.length ≤ n then some xs else none := by
  cases xs with
  | nil => contradiction
  | cons x xs => simp [bytes, h]

theorem bytes_bounded_eq_none {n : Nat} (h : n < ops.length) : bytes (some n) ops = none := by
  rcases hmap : ops.mapM byte with _ | xs
  · exact bytes_eq_none_of_mapM hmap
  · have hlength := length_of_mapM_byte hmap
    rw [bytes_bounded_of_mapM n hmap (List.ne_nil_of_length_pos (by omega)), if_neg (by omega)]

end

/-! ### Mnemonics -/

/-- Mnemonics are compared as the strings they are written as. -/
theorem toList_beq_toList (a b : String) : (a.toList == b.toList) = (a == b) := by
  rw [Bool.eq_iff_iff, beq_iff_eq, beq_iff_eq, String.toList_inj]

theorem find?_oneOperand : ∀ p ∈ oneOperand, oneOperand.find? (fun q => q.1.toList == p.1.toList) = some p := by
  simp only [toList_beq_toList]
  simp [oneOperand]

theorem find?_plain : ∀ p ∈ oneOperand, plain.find? (fun q => q.1.toList == p.1.toList) = none := by
  simp only [toList_beq_toList]
  simp [plain, oneOperand]

theorem commands_of_mem_oneOperand {p : String × (List Char → Option Byte) × (Byte → Instr)} (hp : p ∈ oneOperand)
    (t : List Char) : commands p.1.toList [t] = (p.2.1 t).map fun b => [p.2.2 b] := by
  simp only [commands, find?_oneOperand p hp, find?_plain p hp]

/-- The three mnemonics with a list of operands are in neither table. -/
theorem find?_list_mnemonic : ∀ m ∈ ["FRAME_BUILD", "CRC_BLOCK", "RX_LOAD"],
    plain.find? (fun q => q.1.toList == m.toList) = none ∧ oneOperand.find? (fun q => q.1.toList == m.toList) = none := by
  simp only [toList_beq_toList]
  simp [plain, oneOperand]

/-- FRAME_BUILD with its operands, the third of which may be left out (R69). -/
def frameBuildOf : List Byte → Option (List Instr)
  | [a, b] => some [.frameBuild a b 0x00]
  | [a, b, c] => some [.frameBuild a b c]
  | _ => none

section
variable (ops : List (List Char))

theorem commands_frameBuild : commands "FRAME_BUILD".toList ops = (ops.mapM byte).bind frameBuildOf := by
  obtain ⟨hplain, hone⟩ := find?_list_mnemonic "FRAME_BUILD" (by simp)
  simp only [commands, hplain, hone, if_true]
  rcases ops.mapM byte with _ | ⟨_ | ⟨a, _ | ⟨b, _ | ⟨c, _ | _⟩⟩⟩⟩ <;> rfl

theorem commands_crcBlock : commands "CRC_BLOCK".toList ops = (bytes none ops).map crcBlock := by
  obtain ⟨hplain, hone⟩ := find?_list_mnemonic "CRC_BLOCK" (by simp)
  simp only [commands, hplain, hone, String.toList_inj]
  simp

theorem commands_rxLoad : commands "RX_LOAD".toList ops = (bytes (some 16) ops).map rxLoad := by
  obtain ⟨hplain, hone⟩ := find?_list_mnemonic "RX_LOAD" (by simp)
  simp only [commands, hplain, hone, String.toList_inj]
  simp

end

/-! ### The forms of R69 -/

section
variable {ops : List (List Char)} {t : List Char} {v : Nat}

/-- Every way of writing the one operand takes a number as a byte. -/
theorem oneOperand_of_number (h : number t = some v) : ∀ p ∈ oneOperand, p.2.1 t = byte t := by
  simp [oneOperand, resultSelector_of_number h, errorSelector_of_number h]

theorem commands_oneOperand_of_number {m : String} {command : Byte → Instr}
    (hm : (m, command) ∈ oneOperand.map fun p => (p.1, p.2.2)) (h : number t = some v) :
    commands m.toList [t] = if v ≤ 255 then some [command (BitVec.ofNat 8 v)] else none := by
  obtain ⟨p, hp, heq⟩ := List.mem_map.mp hm
  obtain ⟨rfl, rfl⟩ := Prod.mk.inj heq
  rw [commands_of_mem_oneOperand hp, oneOperand_of_number h p hp, byte_of_number h]
  split <;> rfl

theorem commands_resRead (t : List Char) :
    commands "RES_READ".toList [t] = (resultSelector t).map fun b => [.resRead b] :=
  commands_of_mem_oneOperand (p := ("RES_READ", resultSelector, .resRead)) (by simp [oneOperand]) t

theorem commands_errRead (t : List Char) :
    commands "ERR_READ".toList [t] = (errorSelector t).map fun b => [.errRead b] :=
  commands_of_mem_oneOperand (p := ("ERR_READ", errorSelector, .errRead)) (by simp [oneOperand]) t

theorem commands_resRead_str (h : number t = some v) :
    commands "RES_READ".toList ["STR+".toList ++ t] =
      if v ≤ 11 then some [.resRead (BitVec.ofNat 8 (0x10 + v))] else none := by
  rw [commands_resRead, resultSelector_str h]
  split <;> rfl

/-- An operand of more than 8 bits is an error in every list of operands. -/
theorem commands_list_eq_none (ht : t ∈ ops) (h : number t = some v) (hbig : 255 < v) :
    commands "FRAME_BUILD".toList ops = none ∧ commands "CRC_BLOCK".toList ops = none ∧
      commands "RX_LOAD".toList ops = none := by
  have hbyte : byte t = none := by rw [byte_of_number h, if_neg (by omega)]
  have hmap := mapM_byte_eq_none ht hbyte
  have hbytes (most : Option Nat) : bytes most ops = none := bytes_eq_none_of_mapM hmap
  rw [commands_frameBuild, commands_crcBlock, commands_rxLoad, hmap, hbytes, hbytes]
  exact ⟨rfl, rfl, rfl⟩

theorem words_word (h : number t = some v) :
    words ".word".toList [t] = if v < 2 ^ 32 then some [BitVec.ofNat 32 v] else none := by
  rw [words, if_pos rfl, fits_of_number 32 h]
  split <;> rfl

/-- The short FRAME_BUILD means sub-opcode 0 (R69). -/
theorem commands_frameBuild_short (a b : List Char) :
    commands "FRAME_BUILD".toList [a, b] = commands "FRAME_BUILD".toList [a, b, "0".toList] := by
  have hzero : byte "0".toList = some 0 := by decide +kernel
  rw [commands_frameBuild, commands_frameBuild]
  rcases ha : byte a with _ | x
  · simp [ha]
  · rcases hb : byte b with _ | y
    · simp [ha, hb]
    · simp only [List.mapM_cons, List.mapM_nil, ha, hb, hzero]
      rfl

end

end Sys2Proof.Machine.Asm

namespace Sys2Proof.Machine

open Asm

/-- Settles O6, clause by clause: operands, selectors, `.word`, and the forms with a list of operands. -/
theorem assemblerRefusesWhatDoesNotFit : Obligations.AssemblerRefusesWhatDoesNotFit := by
  unfold Obligations.AssemblerRefusesWhatDoesNotFit
  refine ⟨fun t v => byte_of_number, fun m command hm t v => commands_oneOperand_of_number hm,
    fun ops t v => commands_list_eq_none, ?_, fun t i => commands_resRead_str, ?_, fun t v => words_word,
    commands_frameBuild_short, fun bs hlong => ?_, fun bs xs hbytes hne => ⟨fun hshort => ?_, ?_⟩⟩
  · simp only [commands_resRead]
    decide +kernel
  · simp only [commands_errRead]
    decide +kernel
  · rw [commands_rxLoad, bytes_bounded_eq_none hlong]
    rfl
  · rw [commands_rxLoad, bytes_bounded_of_mapM 16 hbytes hne, if_pos hshort]
    rfl
  · rw [commands_crcBlock, bytes_unbounded_of_mapM hbytes hne]
    rfl

end Sys2Proof.Machine
end

section
/-! The CRC stream (spec/40_crc.md R72, R77): a command advances CRC_ACC by the byte it feeds and otherwise leaves it,
CRC_INIT set aside; so a run of commands folds the bytes they feed. -/

namespace Sys2Proof.Machine

open Sys2Proof.Safety

section
variable {i : Instr} {s t : State}

theorem fedByte_eq_some_iff {c : Byte} : fedByte i = some c ↔ i = .crcByte c := by
  cases i <;> simp [fedByte]

theorem exec_crcAcc_of_fedByte_eq_none (h : exec i s = .next t) (hinit : i ≠ .crcInit) (hfed : fedByte i = none) :
    t.crcAcc = s.crcAcc := by
  obtain ⟨hcrc, -⟩ := onlyTheListedCommandsWrite i s t h
  by_contra hne
  rcases hcrc hne with rfl | ⟨c, rfl⟩
  · exact hinit rfl
  · cases hfed

theorem exec_crcAcc_of_fedByte_eq_some {c : Byte} (h : exec i s = .next t) (hfed : fedByte i = some c) :
    t.crcAcc = crcByte s.crcAcc c := by
  obtain rfl := fedByte_eq_some_iff.mp hfed
  cases h
  rfl

/-- One command of a stream: the rest of the stream sees its byte already folded in. -/
theorem foldl_filterMap_fedByte_cons (h : exec i s = .next t) (hinit : i ≠ .crcInit) (cmds : List Instr) :
    ((i :: cmds).filterMap fedByte).foldl crcByte s.crcAcc = (cmds.filterMap fedByte).foldl crcByte t.crcAcc := by
  rcases hfed : fedByte i with _ | c
  · rw [List.filterMap_cons_none hfed, exec_crcAcc_of_fedByte_eq_none h hinit hfed]
  · rw [List.filterMap_cons_some hfed, List.foldl_cons, exec_crcAcc_of_fedByte_eq_some h hfed]

theorem runCommands_cons_of_next (h : exec i s = .next t) (cmds : List Instr) :
    runCommands (i :: cmds) s = runCommands cmds t := by
  rw [runCommands, h]

end

/-- Under legal parameters commands other than CRC_INIT run to the end, and CRC_ACC is then the fold of the bytes fed
to them. -/
theorem exists_runCommands_crcAcc (cmds : List Instr) (s : State) (hlegal : s.params.legal = true)
    (hinit : ∀ i ∈ cmds, i ≠ .crcInit) :
    ∃ t, runCommands cmds s = .next t ∧ t.crcAcc = (cmds.filterMap fedByte).foldl crcByte s.crcAcc := by
  induction cmds generalizing s with
  | nil => exact ⟨s, rfl, rfl⟩
  | cons i cmds ih =>
    obtain ⟨hi, hrest⟩ := List.forall_mem_cons.mp hinit
    obtain ⟨u, -, hexec, -⟩ := everyCommandAnswersOnce i s hlegal
    have hparams := (exec_ends hexec).params
    obtain ⟨t, hrun, hacc⟩ := ih u (by rw [hparams, hlegal]) hrest
    exact ⟨t, (runCommands_cons_of_next hexec cmds).trans hrun,
      hacc.trans (foldl_filterMap_fedByte_cons hexec hi cmds).symm⟩

/-- Settles O33: CRC_INIT starts the fold at 0xFFFF, and CRC_READ answers its complement, which is `crc16`. -/
theorem streamAgreesWithCrc16 : Obligations.StreamAgreesWithCrc16 := by
  unfold Obligations.StreamAgreesWithCrc16
  intro cmds s hlegal hinit
  have hstart : exec .crcInit s = .next (complete 0 { s with crcAcc := Config.crcInit }) := rfl
  have hparams := (exec_ends hstart).params
  obtain ⟨t, hrun, hacc⟩ := exists_runCommands_crcAcc cmds _ ((congrArg Params.legal hparams).trans hlegal) hinit
  refine ⟨t, complete ((~~~ t.crcAcc).setWidth 32) t, (runCommands_cons_of_next hstart cmds).trans hrun, rfl, ?_⟩
  rw [complete_completions, hacc, complete_crcAcc, crc16]

end Sys2Proof.Machine
end

section
/-! The CRC's register (spec/40_crc.md R71, R78, R79): one bit as a shift and a conditional exclusive-or, the mirror
image of the register, and sixteen bits as a map that loses nothing. -/

namespace Sys2Proof.Machine

open Sys2Proof.Safety

/-! ### One bit -/

theorem crcBit_eq (acc : Half) (bit : Bool) :
    crcBit acc bit = acc >>> 1 ^^^ if (acc.getLsbD 0 ^^ bit) = true then Config.crcPolyR else 0 := by
  unfold crcBit
  split
  · rfl
  · exact BitVec.xor_zero.symm

/-- The exclusive-or with 0xFFFF, as the spec writes a complement. -/
theorem xor_0xFFFF (k : Half) : k ^^^ 0xFFFF = ~~~k := BitVec.xor_allOnes

/-! ### The mirror image -/

theorem reverse_shiftLeft_one (acc : Half) : (acc <<< 1).reverse = acc.reverse >>> 1 := by
  refine BitVec.eq_of_getLsbD_eq fun i hi => ?_
  simp only [BitVec.getLsbD_ushiftRight, BitVec.getLsbD_reverse, BitVec.getMsbD_shiftLeft, Nat.add_comm]

theorem reverse_xor (a b : Half) : (a ^^^ b).reverse = a.reverse ^^^ b.reverse := by
  refine BitVec.eq_of_getLsbD_eq fun i _ => ?_
  simp only [BitVec.getLsbD_xor, BitVec.getLsbD_reverse, BitVec.getMsbD_xor]

/-- A register that shifts left is the mirror image of one that shifts right, and 0x1021 of 0x8408. -/
theorem reverse_unreflectedBit (acc : Half) (bit : Bool) :
    (unreflectedBit acc bit).reverse = crcBit acc.reverse bit := by
  have hpoly : (0x1021 : Half).reverse = Config.crcPolyR := by decide
  have hlow : acc.reverse.getLsbD 0 = acc.getLsbD 15 := BitVec.getLsbD_reverse
  unfold unreflectedBit crcBit
  rw [hlow, apply_ite BitVec.reverse, reverse_xor, hpoly, reverse_shiftLeft_one]

theorem foldl_unreflectedBit_reverse (acc : Half) (x : Byte) :
    ([0, 1, 2, 3, 4, 5, 6, 7].foldl (fun a i => unreflectedBit a (x.getLsbD i)) acc).reverse =
      crcByte acc.reverse x :=
  (List.foldl_hom BitVec.reverse fun a i => (reverse_unreflectedBit a (x.getLsbD i)).symm).symm

theorem crc16_eq_x25 (s : List Byte) : crc16 s = x25 s := by
  unfold crc16 x25
  have hinit : (0xFFFF : Half).reverse = Config.crcInit := by decide
  rw [xor_0xFFFF, ← List.foldl_hom BitVec.reverse fun acc x => (foldl_unreflectedBit_reverse acc x).symm, hinit]

/-- Settles O31: the two registers are mirror images after every bit; the check value is a computation. -/
theorem crc16EqualsUnreflectedX25 : Obligations.Crc16EqualsUnreflectedX25 := by
  unfold Obligations.Crc16EqualsUnreflectedX25
  exact ⟨crc16_eq_x25, by decide +kernel⟩

/-! ### Sixteen bits -/

/-- Only the exclusive-or of the register and the bits still to come matters. -/
theorem crcBit_xor_ushiftRight (acc m : Half) : crcBit acc (m.getLsbD 0) ^^^ m >>> 1 = crcBit (acc ^^^ m) false := by
  simp only [crcBit_eq, BitVec.getLsbD_xor, Bool.xor_false, BitVec.ushiftRight_xor_distrib]
  ac_rfl

theorem foldl_crcBit_xor_ushiftRight (acc m : Half) (n : Nat) :
    (List.range n).foldl (fun a i => crcBit a (m.getLsbD i)) acc ^^^ m >>> n = (crcBit · false)^[n] (acc ^^^ m) := by
  induction n with
  | zero => simp
  | succ n ih =>
    have hbit : m.getLsbD n = (m >>> n).getLsbD 0 := by simp
    rw [Function.iterate_succ_apply', ← ih, ← crcBit_xor_ushiftRight, ← hbit, ← BitVec.shiftRight_add,
      List.range_succ, List.foldl_concat]

/-- The bytes of a trailer, fed one after the other, are the sixteen bits of its CRC. -/
theorem crcByte_crcByte_eq_foldl (acc : Half) (first second : Byte) :
    crcByte (crcByte acc first) second =
      (List.range 16).foldl (fun a i => crcBit a ((halfOfTrailer first second).getLsbD i)) acc := by
  simp only [crcByte, List.range_succ, List.range_zero, List.foldl_append, halfOfTrailer, BitVec.getLsbD_append]
  rfl

theorem crcByte_crcByte (acc : Half) (first second : Byte) :
    crcByte (crcByte acc first) second = (crcBit · false)^[16] (acc ^^^ halfOfTrailer first second) := by
  have hgone : halfOfTrailer first second >>> 16 = 0 := BitVec.ushiftRight_eq_zero (Nat.le_refl 16)
  rw [← foldl_crcBit_xor_ushiftRight, ← crcByte_crcByte_eq_foldl, hgone]
  exact BitVec.xor_zero.symm

/-- Bit 15 of the next register tells whether the polynomial was added, so no bit is lost. -/
theorem crcBit_false_injective : Function.Injective (crcBit · false) := by
  intro a b h
  have hbits (i : Nat) : (crcBit a false).getLsbD i = (crcBit b false).getLsbD i := congrArg (·.getLsbD i) h
  have htop (k : Half) : (crcBit k false).getLsbD 15 = k.getLsbD 0 := by
    rw [crcBit_eq]
    cases k.getLsbD 0 <;> simp [Config.crcPolyR]
  have hlow : a.getLsbD 0 = b.getLsbD 0 := by rw [← htop a, hbits, htop]
  have hshift : a >>> 1 = b >>> 1 := by
    simpa only [crcBit_eq, hlow, BitVec.xor_left_inj] using h
  refine BitVec.eq_of_getLsbD_eq fun i _ => ?_
  cases i with
  | zero => exact hlow
  | succ i => simpa [Nat.add_comm] using congrArg (·.getLsbD i) hshift

/-- R78: a register that is the complement of the trailer to come has the exclusive-or 0xFFFF with it, whatever the
trailer, so every such stream ends in the one residue; no other register does, as the sixteen bits lose nothing. -/
theorem crc16_append_trailer_eq_residue_iff (p : List Byte) (first second : Byte) :
    crc16 (p ++ [first, second]) = 0x0F47 ↔ crc16 p = halfOfTrailer first second := by
  have hresidue : (0x0F47 : Half) = ~~~ (crcBit · false)^[16] (0xFFFF : Half) := by decide +kernel
  have hcomplement : (0xFFFF : Half) = ~~~ halfOfTrailer first second ^^^ halfOfTrailer first second := by
    rw [← BitVec.not_xor_left, BitVec.xor_self]
    rfl
  rw [crc16_append, List.foldl_cons, List.foldl_cons, List.foldl_nil, crcByte_crcByte, hresidue, BitVec.not_inj,
    (crcBit_false_injective.iterate 16).eq_iff, hcomplement, BitVec.xor_left_inj, BitVec.not_inj]

/-- Settles O32: both checks compare the CRC of the bytes before the trailer with the trailer. -/
theorem residueCheckEqualsTrailerCheck : Obligations.ResidueCheckEqualsTrailerCheck := by
  unfold Obligations.ResidueCheckEqualsTrailerCheck
  refine ⟨fun s => ?_, fun s hlen => ?_⟩
  · exact (crc16_append_trailer_eq_residue_iff s _ _).mpr (halfOfTrailer_bytes (crc16 s)).symm
  · obtain ⟨p, first, second, rfl, -⟩ := exists_trailer hlen
    rw [crc16_append_trailer_eq_residue_iff, stripAndVerify_append]
    split <;> simp [*]

/-- Settles O30: the fold over a byte's bits is the model's own, the complement is `xor_0xFFFF`, and the vectors are
computed. -/
theorem crc16FollowsTheAlgorithm : Obligations.Crc16FollowsTheAlgorithm := by
  unfold Obligations.Crc16FollowsTheAlgorithm
  exact ⟨fun _ _ => rfl, fun s => (xor_0xFFFF _).symm, by decide +kernel, by decide +kernel⟩

end Sys2Proof.Machine
end

section
/-! The words of a command (spec/30_encoding.md R64 to R66), said once for every row of the opcode map, and the CRC
family's commands (spec/40_crc.md R73 to R76). -/

namespace Sys2Proof.Machine

open Sys2Proof.Safety

theorem decode_of_not_wellFormed {r : OpcodeRow} {w : Word} (hr : r ∈ opcodeMap) (hop : opField w = r.op)
    (h : r.format.wellFormed w = false) : decode w = .error (.mustBeZero r.mnemonic) := by
  simp [decode, hop, find?_op r hr, h]

/-- Every word with a row's OP is the row's command or ILLEGAL, by the row's must-be-zero fields. -/
theorem encodedAs_of_mem {r : OpcodeRow} (hr : r ∈ opcodeMap) : EncodedAs r.op r.format r.command := by
  intro w s hop
  refine ⟨fun hzero => ?_, fun hne => ?_⟩
  · exact runWord_of_decode (decode_of_selects hr ⟨hop, beq_iff_eq.mpr hzero⟩)
  · exact runWord_of_illegal (decode_of_not_wellFormed hr hop (beq_eq_false_iff_ne.mpr hne))

/-- Settles O10: the row with OP 0x00, and the command's equation. -/
theorem nopCompletes : Obligations.NopCompletes := by
  unfold Obligations.NopCompletes
  exact ⟨encodedAs_of_mem (r := opcodeMap[0]) (by simp), fun _ => rfl⟩

/-- Settles O11: the row with OP 0x01, and the command's equation. -/
theorem crcInitStartsTheStream : Obligations.CrcInitStartsTheStream := by
  unfold Obligations.CrcInitStartsTheStream
  exact ⟨encodedAs_of_mem (r := opcodeMap[1]) (by simp), fun _ => rfl⟩

/-- Settles O12: the row with OP 0x02, and the command's equation. -/
theorem crcByteAdvancesTheStream : Obligations.CrcByteAdvancesTheStream := by
  unfold Obligations.CrcByteAdvancesTheStream
  exact ⟨encodedAs_of_mem (r := opcodeMap[2]) (by simp), fun _ _ => rfl⟩

/-- Settles O13: the row with OP 0x03, and the command's equation, its complement written as an exclusive-or. -/
theorem crcReadAnswersTheComplement : Obligations.CrcReadAnswersTheComplement := by
  unfold Obligations.CrcReadAnswersTheComplement
  refine ⟨encodedAs_of_mem (r := opcodeMap[3]) (by simp), fun s => ?_⟩
  rw [xor_0xFFFF]
  rfl

end Sys2Proof.Machine
end

section
/-! The check of a response and the frame (spec/41_frame.md R80, R86, R93): a sequence followed by the two bytes of its
CRC passes the check, with any other two bytes it does not, and a frame is such a sequence. -/

namespace Sys2Proof.Machine

open Sys2Proof.Safety

section
variable {p : List Byte} {first second : Byte}

theorem stripAndVerify_append_trailerOf (p : List Byte) : stripAndVerify (p ++ trailerOf (crc16 p)) = .payload p :=
  (stripAndVerify_append p _ _).trans (if_pos (halfOfTrailer_bytes (crc16 p)).symm)

theorem crc16_ne_halfOfTrailer (h : [first, second] ≠ trailerOf (crc16 p)) : crc16 p ≠ halfOfTrailer first second := by
  intro hcrc
  rw [hcrc, trailerOf_halfOfTrailer] at h
  exact h rfl

theorem stripAndVerify_append_of_ne_trailerOf (h : [first, second] ≠ trailerOf (crc16 p)) :
    stripAndVerify (p ++ [first, second]) = .mismatch (crc16 p) (halfOfTrailer first second) :=
  (stripAndVerify_append p first second).trans (if_neg (crc16_ne_halfOfTrailer h))

theorem stripAndVerify_eq_short_iff (l : List Byte) : stripAndVerify l = .short ↔ l.length < 2 := by
  refine ⟨fun h => ?_, stripAndVerify_short⟩
  rcases stripAndVerify_cases l with ⟨hlen, -⟩ | ⟨q, first, second, -, ⟨-, hpayload⟩ | ⟨-, hmismatch⟩⟩
  · exact hlen
  · cases hpayload.symm.trans h
  · cases hmismatch.symm.trans h

/-- A frame is its body and the trailer of the body's CRC (R81). -/
theorem toList_buildFrame (a b c : Byte) :
    (buildFrame a b c).toList = frameBody a b c ++ trailerOf (crc16 (frameBody a b c)) := rfl

end

section
variable {a : Byte} {s : State}

theorem execFrameBuild_argRange (h : s.params.addrMax.toNat < a.toNat) (b c : Byte) :
    execFrameBuild a b c s = .next (raise (encode (.frameBuild a b c)) .argRange s) :=
  if_pos h

/-- The response of FRAME_BUILD is the CRC of the body (R83). -/
theorem execFrameBuild_ok (h : a.toNat ≤ s.params.addrMax.toNat) (b c : Byte) :
    execFrameBuild a b c s =
      .next (complete ((crc16 (frameBody a b c)).setWidth 32) { s with txFrame := buildFrame a b c, txValid := true }) := by
  rw [← halfOfTrailer_bytes (crc16 (frameBody a b c))]
  exact if_neg (Nat.not_lt.mpr h)

end

/-- Settles O35: the two trailers, and the cases of the check. -/
theorem stripUndoesAppend : Obligations.StripUndoesAppend := by
  unfold Obligations.StripUndoesAppend
  exact ⟨stripAndVerify_append_trailerOf, fun _ _ _ => stripAndVerify_append_of_ne_trailerOf,
    stripAndVerify_eq_short_iff⟩

/-- Settles O34: the frame is its body followed by the trailer that the check of a response asks for. -/
theorem frameIsACheckedBuffer : Obligations.FrameIsACheckedBuffer := by
  unfold Obligations.FrameIsACheckedBuffer
  intro a b c s haddr
  refine ⟨_, execFrameBuild_ok haddr b c, rfl, rfl, rfl, rfl, ?_⟩
  rw [complete_txFrame, toList_buildFrame]
  exact stripAndVerify_append_trailerOf (frameBody a b c)

end Sys2Proof.Machine
end

section
/-! A response by commands (spec/41_frame.md R92): each RX_PUSH appends its byte, so the pushes after an RX_CLEAR leave
exactly the bytes pushed, and RX_VERIFY answers the check of those. -/

namespace Sys2Proof.Machine

open Sys2Proof.Safety

section
variable {s t : State}

theorem runCommands_append_of_next {is : List Instr} (h : runCommands is s = .next t) (js : List Instr) :
    runCommands (is ++ js) s = runCommands js t := by
  induction is generalizing s with
  | nil =>
    cases h
    rfl
  | cons i is ih =>
    rw [runCommands] at h
    rw [List.cons_append, runCommands]
    split at h
    · exact ih h
    · cases h
    · cases h

theorem execRxPush_room (c : Byte) (h : s.rxLen.val < 16) :
    execRxPush c s =
      .next (complete (BitVec.ofNat 32 (s.rxLen.val + 1))
        (invalidatePayload
          { s with rxBuf := s.rxBuf.set s.rxLen.val c h, rxLen := ⟨s.rxLen.val + 1, by omega⟩ })) :=
  dif_pos h

theorem execRxPush_full (c : Byte) (h : s.rxLen.val = 16) :
    execRxPush c s = .next (raise (encode (.rxPush c)) .rxOverflow s) :=
  dif_neg (by omega)

theorem exec_rxPush_rxBytes (c : Byte) (h : (rxBytes s).length < 16) :
    ∃ t, exec (.rxPush c) s = .next t ∧ rxBytes t = rxBytes s ++ [c] := by
  rw [length_rxBytes] at h
  refine ⟨_, execRxPush_room c h, ?_⟩
  simp only [rxBytes, complete_rxBuf, complete_rxLen, invalidatePayload_rxBuf, invalidatePayload_rxLen]
  rw [List.take_succ_eq_append_getElem (by simpa using h)]
  simp [Vector.toList_set, List.take_set_of_le]

theorem exists_runCommands_rxPush (bytes : List Byte) (s : State) (h : (rxBytes s).length + bytes.length ≤ 16) :
    ∃ t, runCommands (bytes.map .rxPush) s = .next t ∧ rxBytes t = rxBytes s ++ bytes := by
  induction bytes generalizing s with
  | nil => exact ⟨s, rfl, (List.append_nil _).symm⟩
  | cons c bytes ih =>
    rw [List.length_cons] at h
    obtain ⟨u, hpush, hu⟩ := exec_rxPush_rxBytes c (s := s) (by omega)
    obtain ⟨t, hrun, ht⟩ := ih u (by rw [hu, List.length_append, List.length_singleton]; omega)
    refine ⟨t, (runCommands_cons_of_next hpush _).trans hrun, ?_⟩
    rw [ht, hu, List.append_assoc, List.singleton_append]

/-- RX_LOAD leaves exactly its bytes, whatever was held before (R69). -/
theorem exists_runCommands_rxLoad (s : State) {bytes : List Byte} (h : bytes.length ≤ 16) :
    ∃ t, runCommands (rxLoad bytes) s = .next t ∧ rxBytes t = bytes := by
  obtain ⟨u, hclear, hempty⟩ : ∃ u, exec .rxClear s = .next u ∧ rxBytes u = [] := ⟨_, rfl, List.take_zero⟩
  obtain ⟨t, hrun, ht⟩ := exists_runCommands_rxPush bytes u (by simpa [hempty] using h)
  exact ⟨t, (runCommands_cons_of_next hclear _).trans hrun, by rw [ht, hempty, List.nil_append]⟩

/-- RX_LOAD and then RX_VERIFY is RX_VERIFY on a response of those bytes. -/
theorem exists_runCommands_rxLoad_rxVerify (s : State) {bytes : List Byte} (h : bytes.length ≤ 16) :
    ∃ u, rxBytes u = bytes ∧ ∀ t, execRxVerify u = .next t → runCommands (rxLoad bytes ++ [.rxVerify]) s = .next t := by
  obtain ⟨u, hload, hbytes⟩ := exists_runCommands_rxLoad s h
  refine ⟨u, hbytes, fun t hverify => ?_⟩
  rw [runCommands_append_of_next hload, runCommands_cons_of_next (i := .rxVerify) hverify, runCommands]

/-- The payload that passed the check is two bytes shorter than the response (R89). -/
theorem strippedLength_of_payload {p : List Byte} (h : stripAndVerify (rxBytes s) = .payload p) :
    (strippedLength s.rxLen).val = p.length := by
  have hlen : s.rxLen.val = p.length + 2 := by
    rw [← length_rxBytes s, eq_append_trailerOf h, List.length_append]
    rfl
  exact Nat.sub_eq_of_eq_add hlen

end

/-- Settles O36: the pushes leave the payload and its trailer, and the check of those decides RX_VERIFY. -/
theorem responseRoundTripByCommands : Obligations.ResponseRoundTripByCommands := by
  unfold Obligations.ResponseRoundTripByCommands
  intro p s hlen
  have hroom (first second : Byte) : (p ++ [first, second]).length ≤ 16 := by simpa using hlen
  refine ⟨?_, fun first second hne => ?_⟩
  · obtain ⟨u, hbytes, hverify⟩ := exists_runCommands_rxLoad_rxVerify s (hroom _ _)
    have hchecked : stripAndVerify (rxBytes u) = .payload p := hbytes ▸ stripAndVerify_append_trailerOf p
    have hpayload := strippedLength_of_payload hchecked
    refine ⟨_, hverify _ (execRxVerify_payload hchecked), rfl, rfl, hpayload, ?_, ?_⟩
    · rw [← hpayload]
      exact take_strippedLength hchecked
    · rw [complete_completions, List.getLast?_concat, hpayload]
  · obtain ⟨u, hbytes, hverify⟩ := exists_runCommands_rxLoad_rxVerify s (hroom first second)
    have hchecked := hbytes ▸ stripAndVerify_append_of_ne_trailerOf hne
    exact ⟨_, hverify _ (execRxVerify_mismatch hchecked), rfl, rfl, List.getLast?_concat⟩

end Sys2Proof.Machine
end

section
/-! The commands of the frame and the response, one by one (spec/41_frame.md R83, R84, R87 to R91). -/

namespace Sys2Proof.Machine

open Sys2Proof.Safety

/-! ### The ends of a command, as the statements write them -/

theorem complete_eq_succeeded (resp : Word) (s : State) : complete resp s = succeeded resp s := rfl

theorem raise_eq_failed (w : Word) (k : Code) (s : State) : raise w k s = failed w k s := rfl

/-- A word is its fields, each in its place (R61, R69). -/
theorem packWord_eq_or (op a b c : Byte) :
    packWord op a b c = packWord op 0 0 0 ||| a.setWidth 32 <<< 16 ||| b.setWidth 32 <<< 8 ||| c.setWidth 32 := by
  refine BitVec.eq_of_getLsbD_eq fun i hi => ?_
  simp only [packWord, BitVec.getLsbD_or, BitVec.getLsbD_append, BitVec.getLsbD_shiftLeft, BitVec.getLsbD_setWidth]
  interval_cases i <;> simp

theorem packWord_eq_wordWithC (op c : Byte) : packWord op 0 0 c = wordWithC (packWord op 0 0 0) c := by
  rw [packWord_eq_or, wordWithC]
  simp

theorem encode_frameBuild (a b c : Byte) :
    encode (.frameBuild a b c) = 0x10000000 ||| a.setWidth 32 <<< 16 ||| b.setWidth 32 <<< 8 ||| c.setWidth 32 :=
  packWord_eq_or 0x10 a b c

section
variable (c : Byte)

theorem encode_frameRead : encode (.frameRead c) = wordWithC 0x11000000 c := packWord_eq_wordWithC 0x11 c

theorem encode_rxPush : encode (.rxPush c) = wordWithC 0x21000000 c := packWord_eq_wordWithC 0x21 c

theorem encode_rxRead : encode (.rxRead c) = wordWithC 0x23000000 c := packWord_eq_wordWithC 0x23 c

theorem encode_plRead : encode (.plRead c) = wordWithC 0x24000000 c := packWord_eq_wordWithC 0x24 c

end

/-! ### Reading a byte of a view -/

section
variable {s : State}

theorem execFrameRead_noData (h : s.txValid = false) (c : Byte) :
    execFrameRead c s = .next (raise (encode (.frameRead c)) .noData s) :=
  if_pos h

theorem execFrameRead_valid (h : s.txValid = true) (c : Byte) :
    execFrameRead c s = .next (readByte (encode (.frameRead c)) s.txFrame.toList c.toNat s) :=
  if_neg (by simp [h])

theorem execPlRead_noData (h : s.plValid = false) (c : Byte) :
    execPlRead c s = .next (raise (encode (.plRead c)) .noData s) :=
  if_pos h

theorem execPlRead_valid (h : s.plValid = true) (c : Byte) :
    execPlRead c s = .next (readByte (encode (.plRead c)) (payloadBytes s) c.toNat s) :=
  if_neg (by simp [h])

/-- A view of RX_BUF (R26, R27) answers the buffer's own byte. -/
theorem readByte_take_inside (w : Word) {n i : Nat} (s : State) (hview : i < n) (hbuf : i < 16) :
    readByte w (s.rxBuf.toList.take n) i s = complete (s.rxBuf[i].setWidth 32) s := by
  have hlen : i < (s.rxBuf.toList.take n).length := by simpa using ⟨hview, hbuf⟩
  rw [readByte_inside hlen, List.getElem_take, Vector.getElem_toList]

end

/-- Settles O14: the two sides of ADDR_MAX. -/
theorem frameBuildWritesTheFrame : Obligations.FrameBuildWritesTheFrame := by
  unfold Obligations.FrameBuildWritesTheFrame
  refine ⟨encodedAs_of_mem (r := opcodeMap[4]) (by simp), fun a b c s => ⟨fun hbig => ?_, fun haddr k hk => ?_⟩⟩
  · rw [exec, execFrameBuild_argRange hbig, encode_frameBuild, raise_eq_failed]
  · subst hk
    exact execFrameBuild_ok haddr b c

/-- Settles O15: no frame, and a read of its ten bytes past the end or inside. -/
theorem frameReadAnswersTheByte : Obligations.FrameReadAnswersTheByte := by
  unfold Obligations.FrameReadAnswersTheByte
  refine ⟨encodedAs_of_mem (r := opcodeMap[5]) (by simp), fun c s =>
    ⟨fun hnone => ?_, fun hvalid hpast => ?_, fun hvalid hinside => ?_⟩⟩
  · rw [exec, execFrameRead_noData hnone, encode_frameRead, raise_eq_failed]
  · have hlen : s.txFrame.toList.length ≤ c.toNat := s.txFrame.length_toList.trans_le hpast
    rw [exec, execFrameRead_valid hvalid, readByte_outside hlen, encode_frameRead, raise_eq_failed]
  · have hlen : c.toNat < s.txFrame.toList.length := hinside.trans_eq s.txFrame.length_toList.symm
    rw [exec, execFrameRead_valid hvalid, readByte_inside hlen, Vector.getElem_toList, complete_eq_succeeded]

/-- Settles O16: the row with OP 0x20, and the command's equation. -/
theorem rxClearEmptiesTheResponse : Obligations.RxClearEmptiesTheResponse := by
  unfold Obligations.RxClearEmptiesTheResponse
  exact ⟨encodedAs_of_mem (r := opcodeMap[6]) (by simp), fun _ => rfl⟩

/-- Settles O17: RX_PUSH with and without room. -/
theorem rxPushAppendsTheByte : Obligations.RxPushAppendsTheByte := by
  unfold Obligations.RxPushAppendsTheByte
  refine ⟨encodedAs_of_mem (r := opcodeMap[7]) (by simp), fun c s => ⟨fun hfull => ?_, fun hroom n hn => ?_⟩⟩
  · rw [exec, execRxPush_full c hfull, encode_rxPush, raise_eq_failed]
  · obtain rfl : n = ⟨s.rxLen.val + 1, Nat.succ_lt_succ hroom⟩ := Fin.ext hn
    exact execRxPush_room c hroom

/-- Settles O18: one case for each answer of the check. -/
theorem rxVerifyChecksTheTrailer : Obligations.RxVerifyChecksTheTrailer := by
  unfold Obligations.RxVerifyChecksTheTrailer
  refine ⟨encodedAs_of_mem (r := opcodeMap[8]) (by simp), fun s => ⟨fun hshort => ?_, fun p first second hbytes => ?_⟩⟩
  · exact execRxVerify_short (stripAndVerify_short ((length_rxBytes s).trans_lt hshort))
  · have hchecked := (congrArg stripAndVerify hbytes).trans (stripAndVerify_append p first second)
    refine ⟨fun hcrc => execRxVerify_mismatch (hchecked.trans (if_neg hcrc)), fun hcrc n hn => ?_⟩
    obtain rfl : n = strippedLength s.rxLen := Fin.ext (Nat.eq_sub_of_add_eq hn)
    exact execRxVerify_payload (hchecked.trans (if_pos hcrc))

/-- Settles O19: a read of the response past the end or inside. -/
theorem rxReadAnswersTheByte : Obligations.RxReadAnswersTheByte := by
  unfold Obligations.RxReadAnswersTheByte
  refine ⟨encodedAs_of_mem (r := opcodeMap[9]) (by simp), fun c s => ⟨fun hpast => ?_, fun hbuf hinside => ?_⟩⟩
  · rw [exec, execRxRead, readByte_outside ((length_rxBytes s).trans_le hpast), encode_rxRead, raise_eq_failed]
  · rw [exec, execRxRead, rxBytes, readByte_take_inside _ s hinside hbuf, complete_eq_succeeded]

/-- Settles O20: no payload, and a read of the payload past the end or inside. -/
theorem plReadAnswersThePayloadByte : Obligations.PlReadAnswersThePayloadByte := by
  unfold Obligations.PlReadAnswersThePayloadByte
  refine ⟨encodedAs_of_mem (r := opcodeMap[10]) (by simp), fun c s =>
    ⟨fun hnone => ?_, fun hvalid hpast => ?_, fun hvalid hbuf hinside => ?_⟩⟩
  · rw [exec, execPlRead_noData hnone, encode_plRead, raise_eq_failed]
  · rw [exec, execPlRead_valid hvalid, readByte_outside ((length_payloadBytes s).trans_le hpast), encode_plRead,
      raise_eq_failed]
  · rw [exec, execPlRead_valid hvalid, payloadBytes, readByte_take_inside _ s hinside hbuf, complete_eq_succeeded]

end Sys2Proof.Machine
end

section
/-! The calendar of spec/42_decode.md R108 day by day: the months of a March-based year other than its last, February, have
the Gregorian calendar's lengths in every year, and February ends with the year. -/

namespace Sys2Proof.Machine

open Sys2Proof.Safety

/-! ### Years -/

/-- A day has one place: the March-based year it lies in and the day of that year. -/
theorem civilFromDays_eq_marchDate {z y doy : Int} (hday : z + 719468 = marchFirst y + doy) (h0 : 0 ≤ doy)
    (h1 : doy < marchFirst (y + 1) - marchFirst y) : civilFromDays z = marchDate y doy := by
  obtain ⟨m, d, hday', hd0, hd1, hdate⟩ := civilFromDays_marchDate z
  obtain hbefore | rfl | hafter := lt_trichotomy m y
  · have := marchFirst_mono (Int.add_one_le_of_lt hbefore)
    omega
  · rw [hdate, show d = doy by omega]
  · have := marchFirst_mono (Int.add_one_le_of_lt hafter)
    omega

/-- A March-based year is longer by the leap day of the calendar year in which it ends. -/
theorem marchFirst_succ_sub (y : Int) :
    marchFirst (y + 1) - marchFirst y = if leapYear (y + 1) = true then 366 else 365 := by
  have hfour : (y + 1) / 4 - y / 4 = if (y + 1) % 4 = 0 then 1 else 0 := by split <;> omega
  have hcentury : (y + 1) / 100 - y / 100 = if (y + 1) % 100 = 0 then 1 else 0 := by split <;> omega
  have hera : (y + 1) / 400 - y / 400 = if (y + 1) % 400 = 0 then 1 else 0 := by split <;> omega
  simp only [leapYear, decide_eq_true_eq, marchFirst]
  split_ifs at * <;> omega

/-! ### Months -/

/-- The day of a March-based year on which its month `mp` begins (R108). -/
def monthFirst (mp : Int) : Int := (153 * mp + 2) / 5

/-- The length of the month `mp` of the March-based year `y`: the last month, February, lasts to the end of the year. -/
def monthLength (y mp : Int) : Int :=
  (if mp = 11 then marchFirst (y + 1) - marchFirst y else monthFirst (mp + 1)) - monthFirst mp

/-- The calendar date of the day `d` of the month `mp` of the March-based year `y`. -/
def marchMonthDate (y mp d : Int) : Date :=
  { year := if (if mp < 10 then mp + 3 else mp - 9) ≤ 2 then y + 1 else y
    month := if mp < 10 then mp + 3 else mp - 9
    day := d }

/-- A day of a March-based year is in the month that has begun and has not ended. -/
theorem marchDate_eq_marchMonthDate {y doy mp : Int} (h0 : monthFirst mp ≤ doy) (h1 : doy < monthFirst (mp + 1)) :
    marchDate y doy = marchMonthDate y mp (doy - monthFirst mp + 1) := by
  have hmonth : marchMonth doy = mp := by
    unfold monthFirst at h0 h1
    unfold marchMonth
    omega
  subst hmonth
  rfl

theorem exists_month {doy : Int} (h0 : 0 ≤ doy) (h1 : doy < 366) :
    ∃ mp, 0 ≤ mp ∧ mp ≤ 11 ∧ monthFirst mp ≤ doy ∧ doy < monthFirst (mp + 1) := by
  unfold monthFirst
  exact ⟨(5 * doy + 2) / 153, by omega⟩

theorem daysInMonth_marchMonthDate {mp : Int} (h0 : 0 ≤ mp) (h1 : mp ≤ 11) (y d : Int) :
    daysInMonth (marchMonthDate y mp d).year (marchMonthDate y mp d).month = monthLength y mp := by
  obtain hlt | rfl := lt_or_eq_of_le h1
  · rw [monthLength, if_neg hlt.ne]
    interval_cases mp <;> rfl
  · rw [monthLength, if_pos rfl, marchFirst_succ_sub]
    change (if leapYear (y + 1) = true then 29 else 28) = _
    split <;> rfl

/-! ### The day after -/

theorem nextDay_of_lt {d : Date} (h : d.day < daysInMonth d.year d.month) : nextDay d = { d with day := d.day + 1 } :=
  if_pos h

theorem nextDay_of_eq {d : Date} (h : d.day = daysInMonth d.year d.month) :
    nextDay d =
      if d.month < 12 then { d with month := d.month + 1, day := 1 } else { year := d.year + 1, month := 1, day := 1 } :=
  if_neg h.not_lt

/-- Inside a month the next day is a day of that month. -/
theorem nextDay_marchMonthDate_inside {y mp d : Int} (h0 : 0 ≤ mp) (h1 : mp ≤ 11) (hd : d < monthLength y mp) :
    nextDay (marchMonthDate y mp d) = marchMonthDate y mp (d + 1) :=
  nextDay_of_lt (by rwa [daysInMonth_marchMonthDate h0 h1])

/-- After the last day of a month other than February the next month of the March-based year begins. -/
theorem nextDay_marchMonthDate_last {y mp : Int} (h0 : 0 ≤ mp) (h1 : mp < 11) :
    nextDay (marchMonthDate y mp (monthLength y mp)) = marchMonthDate y (mp + 1) 1 := by
  rw [nextDay_of_eq (daysInMonth_marchMonthDate h0 h1.le y _).symm]
  interval_cases mp <;> rfl

/-- After the last day of February the next March-based year begins. -/
theorem nextDay_marchMonthDate_february (y : Int) :
    nextDay (marchMonthDate y 11 (monthLength y 11)) = marchMonthDate (y + 1) 0 1 := by
  rw [nextDay_of_eq (daysInMonth_marchMonthDate (by decide) le_rfl y _).symm]
  rfl

/-- Inside a March-based year the next day is the next day of that year. -/
theorem nextDay_marchDate_inside {y doy : Int} (h0 : 0 ≤ doy) (h1 : doy + 1 < marchFirst (y + 1) - marchFirst y) :
    nextDay (marchDate y doy) = marchDate y (doy + 1) := by
  have hyear := marchFirst_succ y
  obtain ⟨mp, hm0, hm1, hfrom, hto⟩ := exists_month h0 (by omega)
  rw [marchDate_eq_marchMonthDate hfrom hto]
  rcases lt_or_ge (doy + 1) (monthFirst (mp + 1)) with hinside | hlast
  · rw [nextDay_marchMonthDate_inside hm0 hm1 (by unfold monthLength; split <;> omega),
      marchDate_eq_marchMonthDate (by omega) hinside, sub_add_eq_add_sub]
  · have hmp : mp ≠ 11 := by
      rintro rfl
      unfold monthFirst at hlast
      omega
    have hday : doy - monthFirst mp + 1 = monthLength y mp := by
      rw [monthLength, if_neg hmp]
      omega
    rw [hday, nextDay_marchMonthDate_last hm0 (by omega),
      marchDate_eq_marchMonthDate (mp := mp + 1) (by omega) (by unfold monthFirst at *; omega)]
    congr 1
    omega

/-- After the last day of a March-based year the next one begins. -/
theorem nextDay_marchDate_last {y doy : Int} (h : doy + 1 = marchFirst (y + 1) - marchFirst y) :
    nextDay (marchDate y doy) = marchDate (y + 1) 0 := by
  have hyear := marchFirst_succ y
  have hfrom : monthFirst 11 = 337 := rfl
  have hto : monthFirst (11 + 1) = 367 := rfl
  have hday : doy - monthFirst 11 + 1 = monthLength y 11 := by
    rw [monthLength, if_pos rfl, ← h]
    omega
  rw [marchDate_eq_marchMonthDate (mp := 11) (by omega) (by omega), hday, nextDay_marchMonthDate_february]
  rfl

/-- Settles O54: the day after is the next day of the March-based year or the first day of the next one, whichever place
it has, and the date of either is the calendar's. -/
theorem civilDatesFollowTheCalendar : Obligations.CivilDatesFollowTheCalendar := by
  unfold Obligations.CivilDatesFollowTheCalendar
  refine ⟨rfl, fun z => ?_⟩
  obtain ⟨y, doy, hday, h0, h1, hdate⟩ := civilFromDays_marchDate z
  rw [hdate]
  rcases lt_or_ge (doy + 1) (marchFirst (y + 1) - marchFirst y) with hinside | hlast
  · rw [nextDay_marchDate_inside h0 hinside]
    exact civilFromDays_eq_marchDate (by omega) (by omega) hinside
  · rw [nextDay_marchDate_last (by omega)]
    have := marchFirst_succ (y + 1)
    exact civilFromDays_eq_marchDate (by omega) le_rfl (by omega)

end Sys2Proof.Machine
end

section
/-! The value of a binary32 word (spec/42_decode.md R105): it is read from the word's sign, exponent and fraction, and the
three are read back from it. -/

namespace Sys2Proof.Machine

/-! ### The fields as numbers -/

section
variable (w : Word)

theorem exponent_toNat : (w.extractLsb' 23 8).toNat = w.toNat / 2 ^ 23 % 2 ^ 8 := by
  rw [BitVec.extractLsb'_toNat, Nat.shiftRight_eq_div_pow]

theorem fraction_toNat : (w.extractLsb' 0 23).toNat = w.toNat % 2 ^ 23 := by
  rw [BitVec.extractLsb'_toNat, Nat.shiftRight_zero]

/-- Bit 22 of the fraction, which tells a quiet NaN from a signaling one, is bit 22 of the word (R105). -/
theorem fraction_getLsbD_quiet : (w.extractLsb' 0 23).getLsbD 22 = w.getLsbD 22 := by
  simp

end

/-! ### The four cases of the value -/

section
variable {w : Word}

theorem binary32_infinity (he : (w.extractLsb' 23 8).toNat = 255) (hf : (w.extractLsb' 0 23).toNat = 0) :
    binary32 w = .infinity (w.getLsbD 31) := by
  rw [binary32, if_pos he, if_pos hf]

theorem binary32_nan (he : (w.extractLsb' 23 8).toNat = 255) (hf : (w.extractLsb' 0 23).toNat ≠ 0) :
    binary32 w = .nan (w.getLsbD 31) (w.getLsbD 22) (w.extractLsb' 0 23) := by
  rw [binary32, if_pos he, if_neg hf, fraction_getLsbD_quiet]

theorem binary32_subnormal (he : (w.extractLsb' 23 8).toNat = 0) :
    binary32 w = .finite (w.getLsbD 31) (w.extractLsb' 0 23).toNat (-149) := by
  rw [binary32, if_neg (by omega), if_pos he]

theorem binary32_normal (he : (w.extractLsb' 23 8).toNat ≠ 255) (he0 : (w.extractLsb' 23 8).toNat ≠ 0) :
    binary32 w =
      .finite (w.getLsbD 31) (2 ^ 23 + (w.extractLsb' 0 23).toNat) (((w.extractLsb' 23 8).toNat : Int) - 150) := by
  rw [binary32, if_neg he, if_neg he0]

end

/-! ### The word of a value -/

/-- The word of a sign, an exponent and a fraction (R105). -/
def floatWord (negative : Bool) (e : BitVec 8) (f : BitVec 23) : Word := BitVec.ofBool negative ++ e ++ f

theorem floatWord_fields (w : Word) : floatWord (w.getLsbD 31) (w.extractLsb' 23 8) (w.extractLsb' 0 23) = w := by
  refine BitVec.eq_of_getLsbD_eq fun i hi => ?_
  simp only [floatWord, BitVec.getLsbD_append, BitVec.getLsbD_extractLsb']
  interval_cases i <;> simp

/-- The word a value is read from: a finite value is subnormal exactly when its significand has no bit above the
fraction's. -/
def wordOfBinary32 : Binary32 → Word
  | .infinity negative => floatWord negative 255 0
  | .nan negative _ f => floatWord negative 255 f
  | .finite negative significand exponent =>
    if significand < 2 ^ 23 then floatWord negative 0 (BitVec.ofNat 23 significand)
    else floatWord negative (BitVec.ofInt 8 (exponent + 150)) (BitVec.ofNat 23 significand)

theorem wordOfBinary32_binary32 (w : Word) : wordOfBinary32 (binary32 w) = w := by
  by_cases hspecial : (w.extractLsb' 23 8).toNat = 255
  · have he : w.extractLsb' 23 8 = 255 := BitVec.eq_of_toNat_eq hspecial
    by_cases hinf : (w.extractLsb' 0 23).toNat = 0
    · have hf : w.extractLsb' 0 23 = 0 := BitVec.eq_of_toNat_eq hinf
      rw [binary32_infinity hspecial hinf, wordOfBinary32, ← he, ← hf, floatWord_fields]
    · rw [binary32_nan hspecial hinf, wordOfBinary32, ← he, floatWord_fields]
  · by_cases hsub : (w.extractLsb' 23 8).toNat = 0
    · have he : w.extractLsb' 23 8 = 0 := BitVec.eq_of_toNat_eq hsub
      rw [binary32_subnormal hsub, wordOfBinary32, if_pos (BitVec.isLt _), BitVec.ofNat_toNat, BitVec.setWidth_eq, ← he,
        floatWord_fields]
    · have hf : BitVec.ofNat 23 (2 ^ 23 + (w.extractLsb' 0 23).toNat) = w.extractLsb' 0 23 :=
        BitVec.eq_of_toNat_eq ((Nat.add_mod_left _ _).trans (Nat.mod_eq_of_lt (BitVec.isLt _)))
      rw [binary32_normal hspecial hsub, wordOfBinary32, if_neg (by omega), sub_add_cancel, BitVec.ofInt_natCast,
        BitVec.ofNat_toNat, BitVec.setWidth_eq, hf, floatWord_fields]

/-- Settles O56: the fields are quotient and remainder of the word, and the word is read back from its value. -/
theorem binary32ReadsEveryWord : Obligations.Binary32ReadsEveryWord := by
  unfold Obligations.Binary32ReadsEveryWord
  refine ⟨fun w e f he hf => ?_, Function.LeftInverse.injective wordOfBinary32_binary32⟩
  rw [← exponent_toNat] at he
  rw [← fraction_toNat] at hf
  subst he hf
  refine ⟨binary32_infinity, fun he hf => ?_, binary32_subnormal, fun he0 he => binary32_normal he he0⟩
  rw [BitVec.ofNat_toNat, BitVec.setWidth_eq]
  exact binary32_nan he hf

end Sys2Proof.Machine
end

section
/-! The decode commands one by one (spec/42_decode.md R103 to R107): the failures of the numeric word are the failures of
the three commands that need it, and the string is the payload from offset 2. -/

namespace Sys2Proof.Machine

open Sys2Proof.Safety

theorem failDecode_eq_failed (w : Word) (k : Code) (s : State) : failDecode w k s = failed w k (resultCleared s) := rfl

/-- The two readings of a word as an integer are the same (R16). -/
theorem s32_eq_toInt (w : Word) : s32 w = w.toInt := by
  rw [s32, BitVec.toInt_eq_toNat_cond]
  split_ifs <;> omega

/-! ### The payloads that have no numeric word -/

section
variable {s : State}

theorem numericWord_noData (h : s.plValid = false) : numericWord s = .error .noData := if_pos h

theorem numericWord_short (hvalid : s.plValid = true) (h : s.plLen.val < 6) : numericWord s = .error .payloadShort := by
  rw [numericWord, if_neg (by simp [hvalid]), if_pos h]

theorem numericWord_long (hvalid : s.plValid = true) (h : 6 < s.plLen.val)
    (hstrict : s.params.strictNumericLength = true) : numericWord s = .error .payloadLong := by
  rw [numericWord, if_neg (by simp [hvalid]), if_neg (by omega), if_pos ⟨hstrict, h⟩]

/-- A command that fails as the numeric word does has the failures of R101, each with the result cleared. -/
theorem numeric_failures {r : Result} {w : Word}
    (h : ∀ {k}, numericWord s = .error k → r = .next (failDecode w k s)) :
    (s.plValid = false → r = .next (failed w .noData (resultCleared s))) ∧
    (s.plValid = true → s.plLen.val < 6 → r = .next (failed w .payloadShort (resultCleared s))) ∧
    (s.plValid = true → 6 < s.plLen.val → s.params.strictNumericLength = true →
      r = .next (failed w .payloadLong (resultCleared s))) :=
  ⟨fun hnone => h (numericWord_noData hnone), fun hvalid hshort => h (numericWord_short hvalid hshort),
    fun hvalid hlong hstrict => h (numericWord_long hvalid hlong hstrict)⟩

/-! ### The string -/

theorem execDecString_noData (h : s.plValid = false) :
    execDecString s = .next (failDecode (encode .decString) .noData s) :=
  if_pos h

theorem execDecString_short (hvalid : s.plValid = true) (h : s.plLen.val < 2) :
    execDecString s = .next (failDecode (encode .decString) .payloadShort s) := by
  rw [execDecString, if_neg (by simp [hvalid]), if_pos h]

theorem execDecString_ok (hvalid : s.plValid = true) (h : 2 ≤ s.plLen.val) :
    execDecString s =
      .next (complete (BitVec.ofNat 32 (stringLength s.plLen).val)
        (writeResult .string 0 0 (stringField s.rxBuf (stringLength s.plLen)) (stringLength s.plLen) s)) := by
  rw [execDecString, if_neg (by simp [hvalid]), if_neg (by omega)]

theorem stringField_getElem (buf : Vector Byte 16) (n : Fin 13) (i : Fin 12) :
    (stringField buf n)[i] = if i.val < n.val then buf[2 + i.val] else 0x00 := by
  simp [stringField]

/-- The bytes of the string are those of the payload from offset 2 (R106). -/
theorem take_stringField (buf : Vector Byte 16) (n : Fin 15) :
    (stringField buf (stringLength n)).toList.take (stringLength n).val = (buf.toList.take n.val).drop 2 := by
  have hlen : (stringLength n).val = n.val - 2 := rfl
  refine List.ext_getElem (by simp [hlen]; omega) fun i hi hi' => ?_
  have hin : i < (stringLength n).val := by simp at hi; omega
  simp [stringField, hin]

end

/-- Settles O21: the numeric word or its failure, and the word read as an integer. -/
theorem decInt32DecodesTheInteger : Obligations.DecInt32DecodesTheInteger := by
  unfold Obligations.DecInt32DecodesTheInteger
  refine ⟨encodedAs_of_mem (r := opcodeMap[11]) (by simp), fun s => ?_⟩
  obtain ⟨hnone, hshort, hlong⟩ := numeric_failures (s := s) execDecInt32_error
  refine ⟨hnone, hshort, hlong, fun hvalid hlen hstrict w hw => ?_⟩
  subst hw
  refine ⟨_, execDecInt32_ok (numericWord_of_payload hvalid hlen hstrict), ?_, rfl⟩
  rw [← s32_eq_toInt]
  rfl

/-- Settles O22: the numeric word or its failure, and the word as it is. -/
theorem decFloat32KeepsTheBitPattern : Obligations.DecFloat32KeepsTheBitPattern := by
  unfold Obligations.DecFloat32KeepsTheBitPattern
  refine ⟨encodedAs_of_mem (r := opcodeMap[12]) (by simp), fun s => ?_⟩
  obtain ⟨hnone, hshort, hlong⟩ := numeric_failures (s := s) execDecFloat32_error
  refine ⟨hnone, hshort, hlong, fun hvalid hlen hstrict w hw => ?_⟩
  subst hw
  exact ⟨_, execDecFloat32_ok (numericWord_of_payload hvalid hlen hstrict), rfl, rfl⟩

/-- Settles O23: no payload, a payload of less than two bytes, and the string. -/
theorem decStringCopiesTheBytes : Obligations.DecStringCopiesTheBytes := by
  unfold Obligations.DecStringCopiesTheBytes
  refine ⟨encodedAs_of_mem (r := opcodeMap[13]) (by simp), fun s =>
    ⟨execDecString_noData, execDecString_short, fun hvalid n hn => ?_⟩⟩
  obtain rfl : n = stringLength s.plLen := Fin.ext (Nat.eq_sub_of_add_eq hn)
  refine ⟨_, execDecString_ok hvalid (by omega), stringField_getElem s.rxBuf _, ?_, rfl⟩
  exact congrArg (fun bytes => some (Value.string bytes)) (take_stringField s.rxBuf s.plLen)

/-- Settles O24: the numeric word or its failure, and the date of the word's day. -/
theorem decDateDecodesTheDate : Obligations.DecDateDecodesTheDate := by
  unfold Obligations.DecDateDecodesTheDate
  refine ⟨encodedAs_of_mem (r := opcodeMap[14]) (by simp), fun s => ?_⟩
  obtain ⟨hnone, hshort, hlong⟩ := numeric_failures (s := s) execDecDate_error
  refine ⟨hnone, hshort, hlong, fun hlegal hvalid hlen hstrict w d hw hd r hr => ?_⟩
  rw [add_assoc, ← Params.dateOffset, ← dateOfTimestamp] at hd
  subst hr hd hw
  exact execDecDate_ok (numericWord_of_payload hvalid hlen hstrict) hlegal

end Sys2Proof.Machine
end

section
/-! RES_READ (spec/42_decode.md R109): the selectors by their numbers, and what each answers. -/

namespace Sys2Proof.Machine

open Sys2Proof.Safety

theorem encode_resRead (c : Byte) : encode (.resRead c) = wordWithC 0x34000000 c := packWord_eq_wordWithC 0x34 c

/-! ### The selectors -/

section
variable {c : Byte}

theorem resSelector_unknown (h : (0x03 < c.toNat ∧ c.toNat < 0x10) ∨ 0x1B < c.toNat) : resSelector c = none := by
  rw [resSelector, if_neg (by omega), if_neg (by omega), if_neg (by omega), if_neg (by omega), if_neg (by omega)]

theorem resSelector_str {i : Fin 12} (h : c.toNat = 0x10 + i.val) : resSelector c = some (.str i.val) := by
  rw [resSelector, if_neg (by omega), if_neg (by omega), if_neg (by omega), if_neg (by omega), if_pos (by omega), h,
    Nat.add_sub_cancel_left]

/-- The selectors other than TAG. -/
theorem exists_resSelector_ne_tag (h : (0x01 ≤ c.toNat ∧ c.toNat ≤ 0x03) ∨ (0x10 ≤ c.toNat ∧ c.toNat ≤ 0x1B)) :
    ∃ sel, resSelector c = some sel ∧ sel ≠ .tag := by
  rcases h with hfield | hstr
  · obtain h1 | h2 | h3 : c.toNat = 1 ∨ c.toNat = 2 ∨ c.toNat = 3 := by omega
    · exact ⟨.word, by simp [resSelector, h1], nofun⟩
    · exact ⟨.raw, by simp [resSelector, h2], nofun⟩
    · exact ⟨.slen, by simp [resSelector, h3], nofun⟩
  · have hc : c.toNat = 0x10 + (⟨c.toNat - 0x10, by omega⟩ : Fin 12).val := (Nat.add_sub_of_le hstr.1).symm
    exact ⟨_, resSelector_str hc, nofun⟩

end

/-! ### The answers -/

section
variable {c : Byte} {s : State}

theorem execResRead_unknown (h : resSelector c = none) :
    execResRead c s = .next (raise (encode (.resRead c)) .argRange s) := by
  rw [execResRead, h]

theorem needResult_none (w : Word) (t : State) (h : s.resTag = .none) : needResult w s t = raise w .noData s := if_pos h

theorem needResult_some (w : Word) (t : State) (h : s.resTag ≠ .none) : needResult w s t = t := if_neg h

theorem execResRead_noData {sel : ResSelector} (hsel : resSelector c = some sel) (hne : sel ≠ .tag)
    (hnone : s.resTag = .none) : execResRead c s = .next (raise (encode (.resRead c)) .noData s) := by
  rw [execResRead, hsel]
  cases sel with
  | tag => exact absurd rfl hne
  | _ => exact congrArg _ (needResult_none _ _ hnone)

theorem execResRead_str {i : Nat} (hsel : resSelector c = some (.str i)) (hresult : s.resTag ≠ .none) :
    execResRead c s = .next (readByte (encode (.resRead c)) (resultString s) i s) := by
  rw [execResRead, hsel]
  exact congrArg _ (needResult_some _ _ hresult)

/-- A byte of the string is the register's own byte (R37). -/
theorem readByte_resultString_inside (w : Word) {i : Fin 12} (h : i.val < s.resSlen.val) :
    readByte w (resultString s) i.val s = complete (s.resStr[i].setWidth 32) s := by
  rw [readByte_inside (h.trans_eq (length_resultString s).symm)]
  simp [resultString]

end

/-- Settles O26: TAG, the unknown selectors, any other without a result, and each with one. -/
theorem resReadAnswersTheSelectedField : Obligations.ResReadAnswersTheSelectedField := by
  unfold Obligations.ResReadAnswersTheSelectedField
  refine ⟨encodedAs_of_mem (r := opcodeMap[15]) (by simp), fun s =>
    ⟨rfl, fun c hunknown => ?_, fun c hrange hnone => ?_, fun hresult =>
      ⟨congrArg _ (needResult_some _ _ hresult), congrArg _ (needResult_some _ _ hresult),
        congrArg _ (needResult_some _ _ hresult), fun c i hc => ⟨fun hpast => ?_, fun hinside => ?_⟩⟩⟩⟩
  · rw [exec, execResRead_unknown (resSelector_unknown hunknown), encode_resRead, raise_eq_failed]
  · obtain ⟨sel, hsel, hne⟩ := exists_resSelector_ne_tag hrange
    rw [exec, execResRead_noData hsel hne hnone, encode_resRead, raise_eq_failed]
  · rw [exec, execResRead_str (resSelector_str hc) hresult,
      readByte_outside ((length_resultString s).trans_le hpast), encode_resRead, raise_eq_failed]
  · rw [exec, execResRead_str (resSelector_str hc) hresult, readByte_resultString_inside _ hinside,
      complete_eq_succeeded]

end Sys2Proof.Machine
end

section
/-! What a decode command depends on (spec/42_decode.md R111): two states that agree on the payload registers, the
parameters and the payload bytes the command reads decode alike. -/

namespace Sys2Proof.Machine

open Sys2Proof.Safety

/-- The result and the last completion of two states are the same. -/
def SameDecoding (s t : State) : Prop := SameResult s t ∧ t.completions.getLast? = s.completions.getLast?

/-- Two outcomes of a decode command: where the first is a next state, the second is one with the same decoding. -/
def DecodesAlike (r q : Result) : Prop := ∀ s, r = .next s → ∃ t, q = .next t ∧ SameDecoding s t

theorem decodesAlike_next {s t : State} (h : SameDecoding s t) : DecodesAlike (.next s) (.next t) := by
  rintro _ ⟨⟩
  exact ⟨t, rfl, h⟩

theorem decodesAlike_refused (x : Refusal) (q : Result) : DecodesAlike (.refused x) q := by
  rintro _ ⟨⟩

section
variable {s t : State}

/-! ### The ways a decode command ends -/

theorem sameDecoding_complete (resp : Word) (h : SameResult s t) : SameDecoding (complete resp s) (complete resp t) :=
  ⟨h, by simp⟩

theorem sameDecoding_failDecode (w : Word) (k : Code) (s t : State) :
    SameDecoding (failDecode w k s) (failDecode w k t) :=
  ⟨⟨rfl, rfl, rfl, rfl, rfl⟩, by simp⟩

theorem sameDecoding_finishNumeric (tag : ResTag) (w raw : Word) (s t : State) :
    SameDecoding (finishNumeric tag w raw s) (finishNumeric tag w raw t) :=
  sameDecoding_complete w ⟨rfl, rfl, rfl, rfl, rfl⟩

/-! ### The numeric decodes -/

theorem numericWord_congr (hvalid : t.plValid = s.plValid) (hlen : t.plLen = s.plLen) (hparams : t.params = s.params)
    (hbytes : ∀ j : Fin 16, 2 ≤ j.val → j.val ≤ 5 → t.rxBuf[j] = s.rxBuf[j]) : numericWord t = numericWord s := by
  have h2 : t.rxBuf[2] = s.rxBuf[2] := hbytes 2 (by decide) (by decide)
  have h3 : t.rxBuf[3] = s.rxBuf[3] := hbytes 3 (by decide) (by decide)
  have h4 : t.rxBuf[4] = s.rxBuf[4] := hbytes 4 (by decide) (by decide)
  have h5 : t.rxBuf[5] = s.rxBuf[5] := hbytes 5 (by decide) (by decide)
  rw [numericWord, numericWord, hvalid, hlen, hparams, h2, h3, h4, h5]

theorem execDecInt32_alike (hword : numericWord t = numericWord s) : DecodesAlike (execDecInt32 s) (execDecInt32 t) := by
  rw [execDecInt32, execDecInt32, hword]
  split
  · exact decodesAlike_next (sameDecoding_failDecode ..)
  · exact decodesAlike_next (sameDecoding_finishNumeric ..)

theorem execDecFloat32_alike (hword : numericWord t = numericWord s) :
    DecodesAlike (execDecFloat32 s) (execDecFloat32 t) := by
  rw [execDecFloat32, execDecFloat32, hword]
  split
  · exact decodesAlike_next (sameDecoding_failDecode ..)
  · exact decodesAlike_next (sameDecoding_finishNumeric ..)

theorem execDecDate_alike (hword : numericWord t = numericWord s) (hparams : t.params = s.params) :
    DecodesAlike (execDecDate s) (execDecDate t) := by
  rw [execDecDate, execDecDate, hword, hparams]
  split
  · exact decodesAlike_next (sameDecoding_failDecode ..)
  · split
    · exact decodesAlike_next (sameDecoding_finishNumeric ..)
    · exact decodesAlike_refused _ _

/-! ### The string decode -/

/-- The string is made of the payload bytes from offset 2 and no others (R106). -/
theorem stringField_congr_from {n : Fin 15} {buf buf' : Vector Byte 16}
    (hbytes : ∀ j : Fin 16, 2 ≤ j.val → j.val < n.val → buf'[j] = buf[j]) :
    stringField buf' (stringLength n) = stringField buf (stringLength n) := by
  refine congrArg Vector.ofFn (funext fun i => ite_congr rfl (fun hinside => ?_) fun _ => rfl)
  have : i.val < n.val - 2 := hinside
  exact hbytes ⟨2 + i.val, by omega⟩ (Nat.le_add_right ..) (by simp; omega)

theorem execDecString_alike (hvalid : t.plValid = s.plValid) (hlen : t.plLen = s.plLen)
    (hbytes : ∀ j : Fin 16, 2 ≤ j.val → j.val < s.plLen.val → t.rxBuf[j] = s.rxBuf[j]) :
    DecodesAlike (execDecString s) (execDecString t) := by
  rw [execDecString, execDecString, hvalid, hlen]
  split
  · exact decodesAlike_next (sameDecoding_failDecode ..)
  · split
    · exact decodesAlike_next (sameDecoding_failDecode ..)
    · exact decodesAlike_next (sameDecoding_complete _ ⟨rfl, rfl, rfl, stringField_congr_from hbytes, rfl⟩)

end

/-- Settles O52: the numeric decodes read the buffer through the numeric word, the string decode through the string
field. -/
theorem decodeDependsOnItsBytesOnly : Obligations.DecodeDependsOnItsBytesOnly := by
  unfold Obligations.DecodeDependsOnItsBytesOnly
  intro i s t s' hvalid hlen hparams hexec
  refine ⟨fun hnumeric hbytes => ?_, ?_⟩
  · have hword := numericWord_congr hvalid hlen hparams hbytes
    simp only [List.mem_cons, List.not_mem_nil, or_false] at hnumeric
    obtain rfl | rfl | rfl := hnumeric
    · exact execDecInt32_alike hword s' hexec
    · exact execDecFloat32_alike hword s' hexec
    · exact execDecDate_alike hword hparams s' hexec
  · rintro rfl hbytes
    exact execDecString_alike hvalid hlen hbytes s' hexec

end Sys2Proof.Machine
end

section
/-! The status word's fields (spec/10_state.md R35), and the commands that read and clear the error state
(spec/43_status.md R120 to R122). -/

namespace Sys2Proof.Machine

open Sys2Proof.Safety

theorem respond_eq_answered (k : Code) (resp : Word) (s : State) : respond k resp s = answered k resp s := rfl

/-! ### The fields of the status word -/

section
variable (s : State)

theorem statusWord_flags :
    (statusWord s).getLsbD 4 = s.sticky ∧ (statusWord s).getLsbD 5 = s.txValid ∧
    (statusWord s).getLsbD 6 = s.plValid := by
  simp only [statusWord, BitVec.getLsbD_append, flagBit, BitVec.getLsbD_ofBool]
  simp

/-- The rows of R35's table that are not flags, lowest bit first. -/
theorem statusWord_fields :
    (statusWord s).extractLsb' 0 4 = codeBits s.lastCode ∧
    (statusWord s).extractLsb' 7 1 = 0 ∧
    (statusWord s).extractLsb' 8 3 = tagBits s.resTag ∧
    (statusWord s).extractLsb' 11 5 = 0 ∧
    (statusWord s).extractLsb' 16 5 = BitVec.ofNat 5 s.rxLen.val ∧
    (statusWord s).extractLsb' 21 3 = 0 ∧
    (statusWord s).extractLsb' 24 4 = BitVec.ofNat 4 s.plLen.val ∧
    (statusWord s).extractLsb' 28 4 = 0 := by
  simp (disch := decide) only [statusWord, BitVec.extractLsb'_append_eq_of_le, BitVec.extractLsb'_append_eq_of_add_le,
    BitVec.extractLsb'_eq_self, Nat.reduceSub, and_self]

/-- RX_LEN is at most 16, so its five bits lose nothing (R26). -/
theorem toNat_ofNat_rxLen : (BitVec.ofNat 5 s.rxLen.val).toNat = s.rxLen.val := by
  rw [BitVec.toNat_ofNat, Nat.mod_eq_of_lt (s.rxLen.isLt.trans (by decide))]

/-- PL_LEN is at most 14, so its four bits lose nothing (R27). -/
theorem toNat_ofNat_plLen : (BitVec.ofNat 4 s.plLen.val).toNat = s.plLen.val := by
  rw [BitVec.toNat_ofNat, Nat.mod_eq_of_lt (s.plLen.isLt.trans (by decide))]

end

/-! ### The diagnostic selectors -/

section
variable {c : Byte}

theorem errSelector_unknown (h : 0x03 < c.toNat) : errSelector c = none := by
  rw [errSelector, if_neg (by omega), if_neg (by omega), if_neg (by omega), if_neg (by omega)]

theorem execErrRead_unknown (h : errSelector c = none) (s : State) :
    execErrRead c s = .next (respond .argRange 0 s) := by
  rw [execErrRead, h]

end

/-- Settles O27: the answer is the status word, and R35's table gives its fields. -/
theorem statusReadAnswersTheStatusWord : Obligations.StatusReadAnswersTheStatusWord := by
  unfold Obligations.StatusReadAnswersTheStatusWord
  refine ⟨encodedAs_of_mem (r := opcodeMap[16]) (by simp), fun s => ⟨statusWord s, rfl, ?_⟩⟩
  obtain ⟨hsticky, htxValid, hplValid⟩ := statusWord_flags s
  obtain ⟨hcode, hbit7, htag, hbits11, hrxLen, hbits21, hplLen, hbits28⟩ := statusWord_fields s
  exact ⟨hcode, hsticky, htxValid, hplValid, hbit7, htag, hbits11,
    (congrArg _ hrxLen).trans (toNat_ofNat_rxLen s), hbits21, (congrArg _ hplLen).trans (toNat_ofNat_plLen s), hbits28⟩

/-- Settles O28: the row with OP 0x41, the four selectors by their numbers, and every other. -/
theorem errReadAnswersTheDiagnostic : Obligations.ErrReadAnswersTheDiagnostic := by
  unfold Obligations.ErrReadAnswersTheDiagnostic
  refine ⟨encodedAs_of_mem (r := opcodeMap[17]) (by simp), fun s => ⟨rfl, rfl, rfl, rfl, fun c hunknown => ?_⟩⟩
  rw [exec, execErrRead_unknown (errSelector_unknown hunknown), respond_eq_answered]

/-- Settles O29: the row with OP 0x42, and the command's equation. -/
theorem errClearClearsTheDiagnostics : Obligations.ErrClearClearsTheDiagnostics := by
  unfold Obligations.ErrClearClearsTheDiagnostics
  exact ⟨encodedAs_of_mem (r := opcodeMap[18]) (by simp), fun _ => rfl⟩

end Sys2Proof.Machine
end

section
/-! A run of presented words (spec/60_exceptions.md R145, R146, spec/70_reset_and_hazards.md R161): the block answers one
word a step, and without a word it stays as it is. -/

namespace Sys2Proof.Machine

section
variable {s t : State}

theorem step_of_empty_inbox (h : s.inbox = []) : step s = .next s := by
  rw [step, takeInput, h]

/-- Under legal parameters every word is answered, be it a command or ILLEGAL, and leaves the other inputs pending. -/
theorem exists_runWord_answeredOnce (w : Word) (hlegal : s.params.legal = true) :
    ∃ t, runWord w s = .next t ∧ AnsweredOnce s t := by
  rcases runWord_cases w s with ⟨i, -, hrun⟩ | ⟨e, -, hrun⟩
  · obtain ⟨t, c, hexec, hanswer⟩ := everyCommandAnswersOnce i s hlegal
    exact ⟨t, hrun.trans hexec, c, hanswer⟩
  · exact ⟨_, hrun, answeredOnce_raise w .illegalCommand (.refl s)⟩

theorem run_succ_of_step (h : step s = .next t) (n : Nat) : core.run (n + 1) s = core.run n t := by
  have hcore : core.step s = .next t := h
  simp only [Host.Core.run, hcore]

end

/-- By induction on the words: the first step answers the first word and leaves the rest pending, under the same
parameters. -/
theorem exists_run_answers (ws : List Word) (s : State) (hlegal : s.params.legal = true)
    (hinbox : s.inbox = ws.map .command) :
    ∃ (t : State) (answers : List Completion), core.run ws.length s = .next t ∧ t.inbox = [] ∧
      t.completions = s.completions ++ answers ∧ answers.length = ws.length := by
  induction ws generalizing s with
  | nil => exact ⟨s, [], rfl, hinbox, (List.append_nil _).symm, rfl⟩
  | cons w ws ih =>
    obtain ⟨u, hrun, c, hcompletions, -, hpending, -⟩ :=
      exists_runWord_answeredOnce (s := { s with inbox := ws.map .command }) w hlegal
    have hstep : step s = .next u := (step_of_command hinbox).trans hrun
    have hparams : u.params = s.params := stepKeepsTheParameters s u hstep
    obtain ⟨t, answers, hrest, hempty, hanswers, hlength⟩ := ih u (by rw [hparams, hlegal]) hpending
    refine ⟨t, c :: answers, (run_succ_of_step hstep ws.length).trans hrest, hempty, ?_, by simp [hlength]⟩
    rw [hanswers, hcompletions, List.append_assoc, List.singleton_append]

/-- Settles O8: with an empty inbox there is no input to take. -/
theorem idleStepHoldsTheState : Obligations.IdleStepHoldsTheState := by
  unfold Obligations.IdleStepHoldsTheState
  exact fun _ => step_of_empty_inbox

/-- Settles O53: by `exists_run_answers`, from the state with the words pending. -/
theorem everyPresentedWordIsAnswered : Obligations.EveryPresentedWordIsAnswered := by
  unfold Obligations.EveryPresentedWordIsAnswered
  exact fun ws s hlegal => exists_run_answers ws { s with inbox := ws.map .command } hlegal rfl

end Sys2Proof.Machine
end

section
/-! What a failure is (spec/60_exceptions.md R131, R133, R134): which commands raise which code, and what a failing command
writes before its failure is recorded. -/

namespace Sys2Proof.Machine

open Sys2Proof.Safety

/-- The column "raised by" of R131, for the commands. -/
def RaisedBy : Code → Instr → Prop
  | .ok, _ => True
  | .framingMismatch, i => i = .rxVerify
  | .framingShort, i => i = .rxVerify
  | .rxOverflow, i => ∃ x, i = .rxPush x
  | .noData, i => isDecode i = true ∨ ∃ x, i = .frameRead x ∨ i = .plRead x ∨ i = .resRead x
  | .payloadShort, i => isDecode i = true
  | .argRange, i =>
    (∃ a b x, i = .frameBuild a b x) ∨
      ∃ x, i = .frameRead x ∨ i = .rxRead x ∨ i = .plRead x ∨ i = .resRead x ∨ i = .errRead x
  | .illegalCommand, _ => False
  | .payloadLong, i => i = .decInt32 ∨ i = .decFloat32 ∨ i = .decDate

/-- The writes of `Writes` that R133 gives to a failure with this code, and the commands that must make them: RX_VERIFY
always makes the payload invalid, a decode always clears the result, and any other command writes nothing. -/
inductive FailureWrites (s : State) : Code → Instr → State → Prop where
  | rxShort : FailureWrites s .framingShort .rxVerify (invalidatePayload s)
  | rxMismatch (calcCrc recvCrc : Half) :
      FailureWrites s .framingMismatch .rxVerify
        { invalidatePayload s with errCrcCalc := calcCrc, errCrcRecv := recvCrc }
  | cleared {k : Code} {i : Instr} (hdecode : isDecode i = true) : FailureWrites s k i (clearResult s)
  | nothing {k : Code} {i : Instr} (hverify : i ≠ .rxVerify) (hdecode : isDecode i = false) : FailureWrites s k i s

/-- The completions of a command, by their code: OK, the failure of the status-neutral ERR_READ, or a failure of R131's
table with R133's writes. It says of the failures what `Ends` leaves open. -/
inductive Completes (i : Instr) (s : State) : State → Prop where
  | ok (resp : Word) {u : State} (hu : u.completions = s.completions) : Completes i s (respond .ok resp u)
  | unknownError (hraised : RaisedBy .argRange i) (hneutral : statusNeutral i = true) :
      Completes i s (respond .argRange 0 s)
  | failure {k : Code} {u : State} (hraised : RaisedBy k i) (hwrites : FailureWrites s k i u) :
      Completes i s (raise (encode i) k u)

section
variable {i : Instr} {s t : State}

/-! ### The ways a command ends -/

theorem completes_complete (resp : Word) {u : State} (hu : u.completions = s.completions) :
    Completes i s (complete resp u) :=
  .ok resp (u := { u with lastCode := .ok }) hu

theorem completes_readByte (hraised : RaisedBy .argRange i) (hwrites : FailureWrites s .argRange i s)
    (bytes : List Byte) (n : Nat) : Completes i s (readByte (encode i) bytes n s) := by
  rcases readByte_cases (encode i) bytes n s with ⟨b, -, hread⟩ | ⟨-, hread⟩ <;> rw [hread]
  · exact completes_complete _ rfl
  · exact .failure hraised hwrites

theorem completes_needResult (c : Byte) (h : Completes (.resRead c) s t) :
    Completes (.resRead c) s (needResult (encode (.resRead c)) s t) := by
  rcases needResult_cases (encode (.resRead c)) s t with ⟨-, hneed⟩ | ⟨-, hneed⟩ <;> rw [hneed]
  · exact .failure (.inr ⟨c, .inr (.inr rfl)⟩) (.nothing nofun rfl)
  · exact h

theorem completes_failDecode {k : Code} (hdecode : isDecode i = true) (hraised : RaisedBy k i) :
    Completes i s (failDecode (encode i) k s) :=
  .failure hraised (.cleared hdecode)

/-- The codes of the numeric word are codes of every command that needs it (R101). -/
theorem raisedBy_of_numericWord_error {k : Code} (h : numericWord s = .error k)
    (hnumeric : RaisedBy .payloadLong i) : RaisedBy k i := by
  have hdecode : isDecode i = true := by
    rcases hnumeric with rfl | rfl | rfl <;> rfl
  rcases numericWord_error h with ⟨rfl, -⟩ | ⟨rfl, -⟩ | ⟨rfl, -⟩
  · exact .inl hdecode
  · exact hdecode
  · exact hnumeric

/-! ### The commands that can fail -/

theorem execFrameBuild_completes {a b c : Byte} (h : execFrameBuild a b c s = .next t) :
    Completes (.frameBuild a b c) s t := by
  unfold execFrameBuild at h
  split at h <;> cases h
  · exact .failure (.inl ⟨a, b, c, rfl⟩) (.nothing nofun rfl)
  · exact completes_complete _ rfl

theorem execFrameRead_completes {c : Byte} (h : execFrameRead c s = .next t) : Completes (.frameRead c) s t := by
  unfold execFrameRead at h
  split at h <;> cases h
  · exact .failure (.inr ⟨c, .inl rfl⟩) (.nothing nofun rfl)
  · exact completes_readByte (.inr ⟨c, .inl rfl⟩) (.nothing nofun rfl) _ _

theorem execRxPush_completes {c : Byte} (h : execRxPush c s = .next t) : Completes (.rxPush c) s t := by
  unfold execRxPush at h
  split at h <;> cases h
  · exact completes_complete _ rfl
  · exact .failure ⟨c, rfl⟩ (.nothing nofun rfl)

theorem execRxVerify_completes (h : execRxVerify s = .next t) : Completes .rxVerify s t := by
  unfold execRxVerify at h
  split at h <;> cases h
  · exact .failure rfl .rxShort
  · exact .failure rfl (.rxMismatch _ _)
  · exact completes_complete _ rfl

theorem execRxRead_completes {c : Byte} (h : execRxRead c s = .next t) : Completes (.rxRead c) s t := by
  cases h
  exact completes_readByte (.inr ⟨c, .inr (.inl rfl)⟩) (.nothing nofun rfl) _ _

theorem execPlRead_completes {c : Byte} (h : execPlRead c s = .next t) : Completes (.plRead c) s t := by
  unfold execPlRead at h
  split at h <;> cases h
  · exact .failure (.inr ⟨c, .inr (.inl rfl)⟩) (.nothing nofun rfl)
  · exact completes_readByte (.inr ⟨c, .inr (.inr (.inl rfl))⟩) (.nothing nofun rfl) _ _

theorem execDecInt32_completes (h : execDecInt32 s = .next t) : Completes .decInt32 s t := by
  unfold execDecInt32 at h
  split at h <;> cases h
  · exact completes_failDecode rfl (raisedBy_of_numericWord_error ‹_› (.inl rfl))
  · exact completes_complete _ rfl

theorem execDecFloat32_completes (h : execDecFloat32 s = .next t) : Completes .decFloat32 s t := by
  unfold execDecFloat32 at h
  split at h <;> cases h
  · exact completes_failDecode rfl (raisedBy_of_numericWord_error ‹_› (.inr (.inl rfl)))
  · exact completes_complete _ rfl

theorem execDecString_completes (h : execDecString s = .next t) : Completes .decString s t := by
  unfold execDecString at h
  split at h
  · cases h
    exact completes_failDecode rfl (.inl rfl)
  · split at h <;> cases h
    · exact completes_failDecode rfl rfl
    · exact completes_complete _ rfl

theorem execDecDate_completes (h : execDecDate s = .next t) : Completes .decDate s t := by
  unfold execDecDate at h
  split at h
  · cases h
    exact completes_failDecode rfl (raisedBy_of_numericWord_error ‹_› (.inr (.inr rfl)))
  · split at h <;> cases h
    exact completes_complete _ rfl

theorem execResRead_completes {c : Byte} (h : execResRead c s = .next t) : Completes (.resRead c) s t := by
  have hraised : RaisedBy .argRange (.resRead c) := .inr ⟨c, .inr (.inr (.inr (.inl rfl)))⟩
  unfold execResRead at h
  split at h <;> cases h
  · exact .failure hraised (.nothing nofun rfl)
  · exact completes_complete _ rfl
  · exact completes_needResult c (completes_complete _ rfl)
  · exact completes_needResult c (completes_complete _ rfl)
  · exact completes_needResult c (completes_complete _ rfl)
  · exact completes_needResult c (completes_readByte hraised (.nothing nofun rfl) _ _)

theorem execErrRead_completes {c : Byte} (h : execErrRead c s = .next t) : Completes (.errRead c) s t := by
  unfold execErrRead at h
  split at h <;> cases h
  · exact .unknownError (.inr ⟨c, .inr (.inr (.inr (.inr rfl)))⟩) rfl
  all_goals exact .ok _ rfl

/-- Every completion of every command. -/
theorem exec_completes (h : exec i s = .next t) : Completes i s t := by
  cases i with
  | nop => cases h; exact completes_complete _ rfl
  | crcInit => cases h; exact completes_complete _ rfl
  | crcByte c => cases h; exact completes_complete _ rfl
  | crcRead => cases h; exact completes_complete _ rfl
  | frameBuild a b c => exact execFrameBuild_completes h
  | frameRead c => exact execFrameRead_completes h
  | rxClear => cases h; exact completes_complete _ rfl
  | rxPush c => exact execRxPush_completes h
  | rxVerify => exact execRxVerify_completes h
  | rxRead c => exact execRxRead_completes h
  | plRead c => exact execPlRead_completes h
  | decInt32 => exact execDecInt32_completes h
  | decFloat32 => exact execDecFloat32_completes h
  | decString => exact execDecString_completes h
  | decDate => exact execDecDate_completes h
  | resRead c => exact execResRead_completes h
  | statusRead => cases h; exact .ok _ rfl
  | errRead c => exact execErrRead_completes h
  | errClear => cases h; exact completes_complete _ rfl

end

/-! ### What a failure writes (R133) and leaves (R134) -/

section
variable {k : Code} {i : Instr} {s u : State}

theorem FailureWrites.completions (h : FailureWrites s k i u) : u.completions = s.completions := by
  cases h <;> rfl

theorem FailureWrites.data (h : FailureWrites s k i u) :
    u.crcAcc = s.crcAcc ∧ u.txFrame = s.txFrame ∧ u.txValid = s.txValid ∧ u.rxBuf = s.rxBuf ∧ u.rxLen = s.rxLen := by
  cases h <;> exact ⟨rfl, rfl, rfl, rfl, rfl⟩

theorem FailureWrites.payload_of_ne (h : FailureWrites s k i u) (hne : i ≠ .rxVerify) :
    u.plValid = s.plValid ∧ u.plLen = s.plLen := by
  cases h with
  | rxShort => exact absurd rfl hne
  | rxMismatch calcCrc recvCrc => exact absurd rfl hne
  | cleared hdecode => exact ⟨rfl, rfl⟩
  | nothing hverify hdecode => exact ⟨rfl, rfl⟩

theorem FailureWrites.payload_of_rxVerify (h : FailureWrites s k i u) (hverify : i = .rxVerify) :
    u.plValid = false ∧ u.plLen = 0 := by
  cases h with
  | rxShort => exact ⟨rfl, rfl⟩
  | rxMismatch calcCrc recvCrc => exact ⟨rfl, rfl⟩
  | cleared hdecode => cases hverify; cases hdecode
  | nothing hne hdecode => exact absurd hverify hne

theorem FailureWrites.errCrc (h : FailureWrites s k i u) (hne : k ≠ .framingMismatch) :
    u.errCrcCalc = s.errCrcCalc ∧ u.errCrcRecv = s.errCrcRecv := by
  cases h with
  | rxMismatch calcCrc recvCrc => exact absurd rfl hne
  | _ => exact ⟨rfl, rfl⟩

theorem FailureWrites.result_of_not_isDecode (h : FailureWrites s k i u) (hdecode : isDecode i = false) :
    SameResult s u := by
  cases h with
  | cleared hdecode' => simp [hdecode] at hdecode'
  | _ => exact SameResult.refl s

/-- The result of a decode that failed is the one after reset: none (R30, R100). -/
theorem FailureWrites.result_of_isDecode (h : FailureWrites s k i u) (hdecode : isDecode i = true) :
    SameResult State.reset u := by
  cases h with
  | rxShort => cases hdecode
  | rxMismatch calcCrc recvCrc => cases hdecode
  | cleared _ => exact ⟨rfl, rfl, rfl, rfl, rfl⟩
  | nothing hverify hnot => simp [hdecode] at hnot

end

/-! ### The completion decides -/

section
variable {k : Code} {i : Instr} {s t u : State} {c : Completion}

/-- The one completion a command adds is the pair it answers with. -/
theorem eq_of_respond_completions {resp : Word} (hu : u.completions = s.completions)
    (hc : (respond k resp u).completions = s.completions ++ [c]) : c = ⟨k, resp⟩ := by
  rw [respond_completions, hu] at hc
  exact (List.singleton_inj.mp (List.append_cancel_left hc)).symm

theorem Writes.completions (h : Writes s k i u) : u.completions = s.completions := by
  cases h <;> rfl

theorem Completes.raisedBy (h : Completes i s t) (hc : t.completions = s.completions ++ [c]) : RaisedBy c.code i := by
  cases h with
  | ok resp hu =>
    obtain rfl := eq_of_respond_completions hu hc
    trivial
  | unknownError hraised _ =>
    obtain rfl := eq_of_respond_completions rfl hc
    exact hraised
  | failure hraised hwrites =>
    obtain rfl := eq_of_respond_completions hwrites.completions hc
    exact hraised

/-- A failure of a status-updating command is `raise`, after the writes that its code allows. -/
theorem Completes.exists_failureWrites (h : Completes i s t) (hc : t.completions = s.completions ++ [c])
    (hstatus : statusNeutral i = false) (hfailed : c.code ≠ .ok) :
    ∃ u, FailureWrites s c.code i u ∧ t = raise (encode i) c.code u := by
  cases h with
  | ok resp hu =>
    obtain rfl := eq_of_respond_completions hu hc
    exact absurd rfl hfailed
  | unknownError _ hneutral => simp [hstatus] at hneutral
  | failure _ hwrites =>
    obtain rfl := eq_of_respond_completions hwrites.completions hc
    exact ⟨_, hwrites, rfl⟩

theorem Ends.eq_of_statusNeutral (h : Ends i s t) (hc : t.completions = s.completions ++ [c])
    (hneutral : statusNeutral i = true) : t = { s with completions := s.completions ++ [c] } := by
  cases h with
  | answer _ k resp =>
    obtain rfl := eq_of_respond_completions rfl hc
    rfl
  | success hstatus _ _ => simp [hneutral] at hstatus
  | failure hstatus _ _ => simp [hneutral] at hstatus

/-- A success of a status-updating command is `complete`, after the writes of its own rule. -/
theorem Ends.exists_writes_of_ok (h : Ends i s t) (hc : t.completions = s.completions ++ [c])
    (hstatus : statusNeutral i = false) (hok : c.code = .ok) : ∃ u, Writes s .ok i u ∧ t = complete c.resp u := by
  cases h with
  | answer hneutral _ _ => simp [hstatus] at hneutral
  | success _ hwrites resp =>
    obtain rfl := eq_of_respond_completions hwrites.completions hc
    exact ⟨_, hwrites, rfl⟩
  | failure _ hwrites hk =>
    obtain rfl := eq_of_respond_completions hwrites.completions hc
    exact absurd hok hk

/-- A success writes no error register, unless it is ERR_CLEAR's. -/
theorem Writes.errRegisters_of_ok (h : Writes s .ok i u) (hne : i ≠ .errClear) :
    u.sticky = s.sticky ∧ u.errCause = s.errCause ∧ u.errCmd = s.errCmd ∧ u.errCrcCalc = s.errCrcCalc ∧
      u.errCrcRecv = s.errCrcRecv := by
  cases h with
  | errClear => exact absurd rfl hne
  | _ => exact ⟨rfl, rfl, rfl, rfl, rfl⟩

end

/-- Settles O39: `Ends` says it of the neutral commands and the successes, `FailureWrites` of the failures. -/
theorem completionDecidesTheStatusRegisters : Obligations.CompletionDecidesTheStatusRegisters := by
  unfold Obligations.CompletionDecidesTheStatusRegisters
  refine fun i s t c hexec hc => ⟨(exec_ends hexec).eq_of_statusNeutral hc, fun hstatus hok => ?_,
    fun hstatus hfailed => ?_⟩
  · obtain ⟨u, hwrites, rfl⟩ := (exec_ends hexec).exists_writes_of_ok hc hstatus hok
    exact ⟨rfl, hwrites.errRegisters_of_ok⟩
  · obtain ⟨u, hwrites, rfl⟩ := (exec_completes hexec).exists_failureWrites hc hstatus hfailed
    obtain ⟨hcrc, hframe, hvalid, hbuf, hlen⟩ := hwrites.data
    exact ⟨rfl, rfl, rfl, rfl, hcrc, hframe, hvalid, hbuf, hlen, hwrites.payload_of_ne, hwrites.payload_of_rxVerify,
      hwrites.errCrc, hwrites.result_of_not_isDecode, hwrites.result_of_isDecode⟩

/-- Settles O40: each clause is the row of `RaisedBy` for its code. -/
theorem eachCodeIsRaisedByItsCommands : Obligations.EachCodeIsRaisedByItsCommands := by
  unfold Obligations.EachCodeIsRaisedByItsCommands
  refine ⟨rfl, fun i s t c hexec hc => ?_⟩
  have hraised : RaisedBy c.code i := (exec_completes hexec).raisedBy hc
  have hrow {k : Code} (hk : c.code = k) : RaisedBy k i := hk ▸ hraised
  exact ⟨fun hframing => hframing.elim hrow hrow, hrow, hrow, hrow, hrow, hrow, hrow⟩

end Sys2Proof.Machine
end

section
/-! The step on a reset (spec/70_reset_and_hazards.md R150): between commands it only sets the registers, and during a
command it comes after that command or in its place. -/

namespace Sys2Proof.Machine

section
variable {s t : State} {w : Word} {rest : List Input}

theorem step_of_reset (h : s.inbox = .reset :: rest) : step s = .next (applyReset { s with inbox := rest }) := by
  rw [step, takeInput, h]
  rfl

/-- `resetDuring_next` for the step. -/
theorem step_next_of_resetDuring (hinbox : s.inbox = .resetDuring w :: rest) (h : step s = .next t) :
    t = applyReset { s with inbox := rest, resetDraws := s.resetDraws + 1 } ∨
    ∃ u, runWord w { s with inbox := rest, resetDraws := s.resetDraws + 1 } = .next u ∧ t = applyReset u := by
  rw [step, takeInput, hinbox] at h
  exact resetDuring_next h

/-- A word leaves the inputs after it pending, whether it is a command or ILLEGAL. -/
theorem runWord_inbox (h : runWord w s = .next t) : t.inbox = s.inbox := by
  rcases runWord_cases w s with ⟨i, -, hrun⟩ | ⟨e, -, hrun⟩ <;> rw [hrun] at h
  · rcases exec_answersOnce_or_refused s i with ⟨u, hexec, -, -, -, hinbox, -⟩ | ⟨-, -, hexec⟩ <;>
      cases hexec.symm.trans h
    exact hinbox
  · cases h
    rfl

end

/-- Settles O9: a reset during a command is a reset of the state before the command or of the state after it, and the
command changes neither the parameters nor the pending inputs. -/
theorem resetSetsEveryRegister : Obligations.ResetSetsEveryRegister := by
  unfold Obligations.ResetSetsEveryRegister
  refine ⟨rfl, rfl, rfl, fun s rest hinbox => step_of_reset hinbox, fun s t w rest hinbox h => ?_⟩
  rcases step_next_of_resetDuring hinbox h with rfl | ⟨u, hrun, rfl⟩
  · exact ⟨rfl, rfl, rfl, .inl rfl⟩
  · have hparams := runWord_params hrun
    have hpending := runWord_inbox hrun
    exact ⟨rfl, hparams, hpending, .inr ⟨u, hrun, rfl⟩⟩

end Sys2Proof.Machine
end

section
/-! The time in which a payload is valid (spec/70_reset_and_hazards.md R154): what opens it, what ends it, and the
commands that need it. -/

namespace Sys2Proof.Machine

open Sys2Proof.Safety

section
variable {k : Code} {i : Instr} {s t u : State}

/-! ### Commands that open and end it -/

theorem Writes.eq_rxVerify_of_opens (h : Writes s k i u) (hclosed : s.plValid = false) (hopen : u.plValid = true) :
    k = .ok ∧ i = .rxVerify := by
  cases h with
  | rxVerify p hchecked => exact ⟨rfl, rfl⟩
  | rxClear => cases hopen
  | rxPush c hroom => cases hopen
  | rxShort => cases hopen
  | rxMismatch calcCrc recvCrc => cases hopen
  | _ => cases hclosed.symm.trans hopen

theorem Ends.eq_rxVerify_of_opens (h : Ends i s t) (hclosed : s.plValid = false) (hopen : t.plValid = true) :
    i = .rxVerify ∧ t.lastCode = .ok := by
  cases h with
  | answer _ k resp => cases hclosed.symm.trans hopen
  | success _ hwrites resp => exact ⟨(hwrites.eq_rxVerify_of_opens hclosed hopen).2, rfl⟩
  | failure _ hwrites hk => exact absurd (hwrites.eq_rxVerify_of_opens hclosed hopen).1 hk

theorem Ends.payload (h : Ends i s t) (hne : t.plValid ≠ s.plValid) :
    i = .rxClear ∨ i = .rxVerify ∨ ∃ c, i = .rxPush c := by
  obtain ⟨k, u, hwrites, hsame⟩ := h.data
  rw [hsame] at hne
  exact hwrites.payload (.inl hne)

/-- While the payload is valid the response still passes the check (R28). -/
theorem stripAndVerify_of_valid (hinv : PayloadInv s) (hvalid : s.plValid = true) :
    stripAndVerify (rxBytes s) = .payload (payloadBytes s) := by
  obtain ⟨hbytes, -⟩ := hinv
  exact (congrArg stripAndVerify (hbytes hvalid)).trans (stripAndVerify_append_trailerOf _)

/-- So another RX_VERIFY does not end it. -/
theorem exec_rxVerify_keeps_valid (hinv : PayloadInv s) (hvalid : s.plValid = true) (h : exec .rxVerify s = .next t) :
    t.plValid = true := by
  cases (execRxVerify_payload (stripAndVerify_of_valid hinv hvalid)).symm.trans h
  rfl

theorem exec_closes (hinv : PayloadInv s) (h : exec i s = .next t) (hopen : s.plValid = true)
    (hclosed : t.plValid = false) : i = .rxClear ∨ ∃ c, i = .rxPush c := by
  rcases (exec_ends h).payload (by simp [hopen, hclosed]) with hclear | rfl | hpush
  · exact .inl hclear
  · cases (exec_rxVerify_keeps_valid hinv hopen h).symm.trans hclosed
  · exact .inr hpush

/-! ### Commands that need it -/

theorem exec_decode_noData (hdecode : isDecode i = true) (h : s.plValid = false) :
    exec i s = .next (failDecode (encode i) .noData s) := by
  cases i with
  | decInt32 => exact execDecInt32_error (numericWord_noData h)
  | decFloat32 => exact execDecFloat32_error (numericWord_noData h)
  | decString => exact execDecString_noData h
  | decDate => exact execDecDate_error (numericWord_noData h)
  | _ => cases hdecode

/-! ### Steps -/

theorem step_of_encode {rest : List Input} (h : s.inbox = .command (encode i) :: rest) :
    step s = exec i { s with inbox := rest } :=
  (step_of_command h).trans (runWord_of_decode (decode_encode i))

/-- Only a successful RX_VERIFY opens the window (R154). -/
theorem step_opens (h : step s = .next t) (hclosed : s.plValid = false) (hopen : t.plValid = true) :
    ∃ rest, s.inbox = .command (encode .rxVerify) :: rest ∧ t.lastCode = .ok := by
  rcases step_cases h with rfl | ⟨i, rest, hinbox, hends⟩ | ⟨w, rest, -, rfl⟩ | ⟨x, rest, -, -, hsame⟩
  · cases hclosed.symm.trans hopen
  · obtain ⟨rfl, hok⟩ := hends.eq_rxVerify_of_opens hclosed hopen
    exact ⟨rest, hinbox, hok⟩
  · cases hclosed.symm.trans hopen
  · rw [hsame] at hopen
    cases hopen

/-- From a state that meets R28 only RX_CLEAR, RX_PUSH and a reset end it (R154). -/
theorem step_closes (hinv : PayloadInv s) (h : step s = .next t) (hopen : s.plValid = true)
    (hclosed : t.plValid = false) :
    ∃ x rest, s.inbox = x :: rest ∧
      (x = .reset ∨ (∃ w, x = .resetDuring w) ∨ x = .command (encode .rxClear) ∨
        ∃ c, x = .command (encode (.rxPush c))) := by
  rcases step_cases h with rfl | ⟨i, rest, hinbox, -⟩ | ⟨w, rest, -, rfl⟩ | ⟨x, rest, hinbox, hreset, -⟩
  · cases hopen.symm.trans hclosed
  · have hexec := (step_of_encode hinbox).symm.trans h
    rcases exec_closes (s := { s with inbox := rest }) hinv hexec hopen hclosed with rfl | ⟨c, rfl⟩
    · exact ⟨_, rest, hinbox, .inr (.inr (.inl rfl))⟩
    · exact ⟨_, rest, hinbox, .inr (.inr (.inr ⟨c, rfl⟩))⟩
  · cases hopen.symm.trans hclosed
  · exact ⟨x, rest, hinbox, hreset.imp_right .inl⟩

end

/-- Settles O48: only RX_VERIFY writes PL_VALID 1, and one that finds it 1 writes it again. -/
theorem payloadWindow : Obligations.PayloadWindow := by
  unfold Obligations.PayloadWindow
  refine ⟨fun s t h => ⟨step_opens h, fun hinv hopen hclosed => ?_⟩, fun s rest hends => ?_,
    fun s t w rest hinbox h => ?_, fun i s hneeds hclosed => ?_⟩
  · simp only [← encode_rxPush]
    exact step_closes hinv h hopen hclosed
  · rcases hends with hclear | hreset | ⟨hroom, c, hpush⟩
    · exact ⟨_, step_of_encode (i := .rxClear) hclear, rfl, rfl⟩
    · exact ⟨_, step_of_reset hreset, rfl, rfl⟩
    · rw [← encode_rxPush] at hpush
      exact ⟨_, (step_of_encode hpush).trans (execRxPush_room (s := { s with inbox := rest }) c hroom), rfl, rfl⟩
  · rcases step_next_of_resetDuring hinbox h with rfl | ⟨u, -, rfl⟩ <;> exact ⟨rfl, rfl⟩
  · rcases hneeds with hdecode | ⟨c, rfl⟩
    · exact ⟨_, exec_decode_noData hdecode hclosed, rfl⟩
    · exact ⟨_, execPlRead_noData hclosed c, rfl⟩

end Sys2Proof.Machine
end
